-- ==== Sys2Proof/Word.lean ====
section
/-! DEFINITION. The bit-vector widths the spec names (00_scope.md R9, R12; 30_encoding.md R100), and a block of seven
like things, which the spec indexes 0 to 6 (the calibration set and the PROM-read commands). -/

namespace Sys2Proof

/-- A byte of the slave bus or of the sensor transport (R73, R74). -/
abbrev Byte := BitVec 8

/-- A calibration coefficient: "unsigned 16-bit" (R9, R26). -/
abbrev Half := BitVec 16

/-- A raw ADC code: "24-bit unsigned" (R9, R24). -/
abbrev Code24 := BitVec 24

/-- A host register or a slave-bus word: 32 bits (R9, R72). -/
abbrev Word := BitVec 32

/-- An operation word `op[43:0]` (R100). -/
abbrev OpWord := BitVec 44

/-- Seven like things, indexed 0 to 6 as the spec indexes CAL and CMD_PROM (R10, R26). -/
structure Seven (α : Type) where
  c0 : α
  c1 : α
  c2 : α
  c3 : α
  c4 : α
  c5 : α
  c6 : α
  deriving DecidableEq, Repr

end Sys2Proof
end

