-- ==== Sys2Proof/Config.lean ====
section
/-! DEFINITION. What an instance of the core fixes (00_scope.md R10) and the values nobody fixes (R15, R42).

The parameters are one record of plain data, `Params`. A state carries the record of its instance, because `exec` and
`step` take no other argument. No rule writes it. A statement over every state is therefore a statement over every
configuration, as R10 asks ("A model takes each as a configuration argument"). -/

namespace Sys2Proof.Config

/-- `DIV_MODE`: the rounding of the engine's divisions by powers of two (R10, R208). -/
inductive DivMode where
  /-- toward zero, the default -/
  | trunc
  /-- toward minus infinity -/
  | floor
  deriving DecidableEq, Repr

/-- `PROM_WORD_ORDER`: the byte order of a two-byte PROM word (R10, R77). -/
inductive PromWordOrder where
  /-- the first byte is bits 15:8, the default -/
  | bigEndian
  /-- the first byte is bits 7:0 -/
  | littleEndian
  deriving DecidableEq, Repr

/-- `NEG_PUBLISH`: how the host reference procedure publishes a negative pressure (R10, R288). -/
inductive NegPublish where
  /-- the 32-bit two's-complement pattern, the default -/
  | twosComplement
  /-- zero -/
  | clampZero
  deriving DecidableEq, Repr

/-- One drawn answer of the sensor transport (R15): `fail`, or `ok` with the bytes in wire order. Every answer fits
every call: a `SensorWrite` uses no byte of it, `SensorRead(2)` the first two, `SensorRead(3)` all three. -/
inductive SensorAnswer where
  | fail
  | ok (b0 b1 b2 : Byte)
  deriving DecidableEq, Repr, Inhabited

/-- FREE VALUE. The sensor transport's answer to the n-th call that no queued answer serves: "a free input the model
does not choose, under no law" (R15, D37, U3). It has no body, so nothing can be proved of its value. -/
opaque freeSensorAnswer : Nat → SensorAnswer

/-- OPEN parameter `SLAVE_ADDR_RESET`: "OPEN (7-bit value)" (R10, R42, D28). The spec gives no default, so it has no
body. -/
opaque slaveAddrReset : BitVec 7

/-- FREE VALUE. What a Start state loads into a wait counter that is too narrow for CFG.WAIT_TICKS, by width and WAIT_TICKS.
At the 8 bits of R23 there is no such case. -/
opaque freeNarrowCount : Nat → BitVec 8 → Nat

/-- The parameters of the core (R10). -/
structure Params where
  /-- `WAIT_TICKS_RESET` -/
  waitTicksReset : BitVec 8
  /-- `ERR_RETRY_LIMIT` -/
  errRetryLimit : Nat
  /-- `WAIT_CNT_WIDTH`: how many bits `Sequencer.waitCnt` has -/
  waitCntWidth : Nat
  /-- `T_TICK` in microseconds: "no rule depends on it" (R10, R326), and no definition reads it -/
  tickMicros : Nat
  /-- `RESET_WAIT_TICKS`, loaded into the 8-bit LDR_CNT (R30) -/
  resetWaitTicks : BitVec 8
  /-- `SLAVE_ADDR_RESET` -/
  slaveAddrReset : BitVec 7
  /-- `CMD_RESET` -/
  cmdReset : Byte
  /-- `CMD_PROM(i)`, i = 0..6 -/
  cmdProm : Seven Byte
  /-- `CMD_CONV_D1` -/
  cmdConvD1 : Byte
  /-- `CMD_CONV_D2` -/
  cmdConvD2 : Byte
  /-- `CMD_ADC_READ` -/
  cmdAdcRead : Byte
  /-- `PROM_WORD_ORDER` -/
  promWordOrder : PromWordOrder
  /-- `DIV_MODE` -/
  divMode : DivMode
  /-- `OVERRUN_BYTE` -/
  overrunByte : Byte
  /-- `NEG_PUBLISH`, host reference procedure only -/
  negPublish : NegPublish
  /-- `READ_COUNT_WIDTH`, host reference procedure only -/
  readCountWidth : Nat
  deriving DecidableEq, Repr

/-- The default of every parameter, as the table of R10 gives it; `SLAVE_ADDR_RESET`, which has none, is the open
constant. -/
def Params.default : Params where
  waitTicksReset := 1#8
  errRetryLimit := 10
  waitCntWidth := 8
  tickMicros := 2000
  resetWaitTicks := 2#8
  slaveAddrReset := Config.slaveAddrReset
  cmdReset := 0x1E#8
  cmdProm := ⟨0xA0#8, 0xA2#8, 0xA4#8, 0xA6#8, 0xA8#8, 0xAA#8, 0xAC#8⟩
  cmdConvD1 := 0x40#8
  cmdConvD2 := 0x50#8
  cmdAdcRead := 0x00#8
  promWordOrder := .bigEndian
  divMode := .trunc
  overrunByte := 0xFF#8
  negPublish := .twosComplement
  readCountWidth := 32

end Sys2Proof.Config
end

