-- ==== Sys2Proof/Syntax.lean ====
section
/-! DEFINITION. The instructions: one constructor per row of spec/opcode_table.json. An "instruction" of this core is an
event (00_scope.md R2). A constructor's fields are the bits of the operation word its row leaves free (30_encoding.md R101
to R105). `lo` is OFF[1:0], which every access ignores (R72).

Some rows have the same word and differ in the state that selects them (R107). TICK covers the whole event; the rows
TICK.L_… are its loader step and the rows TICK.IDLE … TICK.ERROR its sequencer step, one per state. The rows BUS.ADDR.…,
BUS.WB.… and BUS.RB.… are the cases of one event each. -/

namespace Sys2Proof

/-- One constructor per row of the opcode table, in the table's order. -/
inductive Instr where
  /-- `HW.CMD` (R140): a host write to CMD that carries none, or several, of the three command bits -/
  | hwCmd (lo : BitVec 2) (data : Word)
  /-- `HW.CMD.SEQ_STOP` (R142): a host write to CMD whose only command bit is SEQ_STOP; `rsv` is the ignored DATA[31:3] -/
  | hwCmdSeqStop (lo : BitVec 2) (rsv : BitVec 29)
  /-- `HW.CMD.SEQ_START` (R143): a host write to CMD whose only command bit is SEQ_START -/
  | hwCmdSeqStart (lo : BitVec 2) (rsv : BitVec 29)
  /-- `HW.CMD.CAL_LOAD` (R144): a host write to CMD whose only command bit is CAL_LOAD -/
  | hwCmdCalLoad (lo : BitVec 2) (rsv : BitVec 29)
  /-- `HW.CFG` (R263): a host write to CFG -/
  | hwCfg (lo : BitVec 2) (data : Word)
  /-- `HW.STATUS` (R264): a host write to STATUS -/
  | hwStatus (lo : BitVec 2) (data : Word)
  /-- `HW.PRESSURE` (R264): a host write to PRESSURE -/
  | hwPressure (lo : BitVec 2) (data : Word)
  /-- `HW.TEMPERATURE` (R264): a host write to TEMPERATURE -/
  | hwTemperature (lo : BitVec 2) (data : Word)
  /-- `HW.RAW_D1` (R264): a host write to RAW_D1 -/
  | hwRawD1 (lo : BitVec 2) (data : Word)
  /-- `HW.RAW_D2` (R264): a host write to RAW_D2 -/
  | hwRawD2 (lo : BitVec 2) (data : Word)
  /-- `HW.TX_HOLD` (R266): a host write to TX_HOLD -/
  | hwTxHold (lo : BitVec 2) (data : Word)
  /-- `HW.RX_DATA` (R264): a host write to RX_DATA -/
  | hwRxData (lo : BitVec 2) (data : Word)
  /-- `HW.CAL0` (R264): a host write to CAL0 -/
  | hwCal0 (lo : BitVec 2) (data : Word)
  /-- `HW.CAL1` (R264): a host write to CAL1 -/
  | hwCal1 (lo : BitVec 2) (data : Word)
  /-- `HW.CAL2` (R264): a host write to CAL2 -/
  | hwCal2 (lo : BitVec 2) (data : Word)
  /-- `HW.CAL3` (R264): a host write to CAL3 -/
  | hwCal3 (lo : BitVec 2) (data : Word)
  /-- `HW.CAL4` (R264): a host write to CAL4 -/
  | hwCal4 (lo : BitVec 2) (data : Word)
  /-- `HW.CAL5` (R264): a host write to CAL5 -/
  | hwCal5 (lo : BitVec 2) (data : Word)
  /-- `HW.CAL6` (R264): a host write to CAL6 -/
  | hwCal6 (lo : BitVec 2) (data : Word)
  /-- `HW.UNMAPPED.40` (R265): a host write at 0x40 + `off` -/
  | hwUnmapped40 (off : BitVec 6) (data : Word)
  /-- `HW.UNMAPPED.80` (R265): a host write at 0x80 + `off` -/
  | hwUnmapped80 (off : BitVec 7) (data : Word)
  /-- `HR.CMD` (R270): a host read of CMD -/
  | hrCmd (lo : BitVec 2)
  /-- `HR.CFG` (R271): a host read of CFG -/
  | hrCfg (lo : BitVec 2)
  /-- `HR.STATUS` (R272): a host read of STATUS -/
  | hrStatus (lo : BitVec 2)
  /-- `HR.PRESSURE` (R273): a host read of PRESSURE -/
  | hrPressure (lo : BitVec 2)
  /-- `HR.TEMPERATURE` (R274): a host read of TEMPERATURE -/
  | hrTemperature (lo : BitVec 2)
  /-- `HR.RAW_D1` (R276): a host read of RAW_D1 -/
  | hrRawD1 (lo : BitVec 2)
  /-- `HR.RAW_D2` (R277): a host read of RAW_D2 -/
  | hrRawD2 (lo : BitVec 2)
  /-- `HR.TX_HOLD` (R278): a host read of TX_HOLD -/
  | hrTxHold (lo : BitVec 2)
  /-- `HR.RX_DATA` (R275): a host read of RX_DATA -/
  | hrRxData (lo : BitVec 2)
  /-- `HR.CAL0` (R279): a host read of CAL0 -/
  | hrCal0 (lo : BitVec 2)
  /-- `HR.CAL1` (R279): a host read of CAL1 -/
  | hrCal1 (lo : BitVec 2)
  /-- `HR.CAL2` (R279): a host read of CAL2 -/
  | hrCal2 (lo : BitVec 2)
  /-- `HR.CAL3` (R279): a host read of CAL3 -/
  | hrCal3 (lo : BitVec 2)
  /-- `HR.CAL4` (R279): a host read of CAL4 -/
  | hrCal4 (lo : BitVec 2)
  /-- `HR.CAL5` (R279): a host read of CAL5 -/
  | hrCal5 (lo : BitVec 2)
  /-- `HR.CAL6` (R279): a host read of CAL6 -/
  | hrCal6 (lo : BitVec 2)
  /-- `HR.UNMAPPED.40` (R280): a host read at 0x40 + `off` -/
  | hrUnmapped40 (off : BitVec 6)
  /-- `HR.UNMAPPED.80` (R280): a host read at 0x80 + `off` -/
  | hrUnmapped80 (off : BitVec 7)
  /-- `TICK` (R145): a tick: the loader step, then the sequencer step -/
  | tick
  /-- `TICK.L_IDLE` (R170): the loader step of a tick with LDR_PHASE = 0 -/
  | tickLIdle
  /-- `TICK.L_RESET` (R171): the loader step of a tick with LDR_PHASE = 1 -/
  | tickLReset
  /-- `TICK.L_WAIT` (R172): the loader step of a tick with LDR_PHASE = 2 -/
  | tickLWait
  /-- `TICK.L_PROM` (R174): the loader step of a tick with LDR_PHASE = 3 -/
  | tickLProm
  /-- `TICK.IDLE` (R150): the sequencer step of a tick in IDLE -/
  | tickIdle
  /-- `TICK.START_P` (R151): the sequencer step of a tick in START_P -/
  | tickStartP
  /-- `TICK.WAIT_P` (R152): the sequencer step of a tick in WAIT_P -/
  | tickWaitP
  /-- `TICK.READ_P` (R153): the sequencer step of a tick in READ_P -/
  | tickReadP
  /-- `TICK.START_T` (R154): the sequencer step of a tick in START_T -/
  | tickStartT
  /-- `TICK.WAIT_T` (R155): the sequencer step of a tick in WAIT_T -/
  | tickWaitT
  /-- `TICK.READ_T` (R156): the sequencer step of a tick in READ_T -/
  | tickReadT
  /-- `TICK.CALC` (R157): the sequencer step of a tick in CALC -/
  | tickCalc
  /-- `TICK.ERROR` (R158): the sequencer step of a tick in ERROR -/
  | tickError
  /-- `BUS.ADDR.W.MATCH` (R223): an address event, RW = 0, that matches -/
  | busAddrWMatch (a7 : BitVec 7)
  /-- `BUS.ADDR.R.MATCH` (R224): an address event, RW = 1, that matches -/
  | busAddrRMatch (a7 : BitVec 7)
  /-- `BUS.ADDR.NOMATCH` (R227): an address event, either RW, that does not match -/
  | busAddrNomatch (a7 : BitVec 7) (rw : Bool)
  /-- `BUS.WB.RX` (R225): the master wrote a byte: SLV_DIR = RECEIVING, BCNT in 0..2 -/
  | busWbRx (b : Byte)
  /-- `BUS.WB.RX.LAST` (R226): the master wrote a byte: SLV_DIR = RECEIVING, BCNT = 3 -/
  | busWbRxLast (b : Byte)
  /-- `BUS.WB.NONE` (R228): the master wrote a byte: SLV_DIR = NONE -/
  | busWbNone (b : Byte)
  /-- `BUS.WB.TX` (R229): the master wrote a byte: SLV_DIR = TRANSMITTING -/
  | busWbTx (b : Byte)
  /-- `BUS.RB.TX` (R230): the master reads a byte: SLV_DIR = TRANSMITTING, BCNT in 0..2 -/
  | busRbTx
  /-- `BUS.RB.TX.LAST` (R230): the master reads a byte: SLV_DIR = TRANSMITTING, BCNT = 3 -/
  | busRbTxLast
  /-- `BUS.RB.NONE` (R231): the master reads a byte: SLV_DIR = NONE -/
  | busRbNone
  /-- `BUS.RB.RX` (R231): the master reads a byte: SLV_DIR = RECEIVING -/
  | busRbRx
  /-- `BUS.STOP` (R232): the stop condition -/
  | busStop
  /-- `BUS.BERR` (R233): a bus error -/
  | busBerr
  /-- `RESET` (R340): the reset input -/
  | reset
  deriving DecidableEq, Repr

end Sys2Proof
end

