-- ==== Sys2Proof/WellFormed.lean ====
section
/-! DEFINITION. Which instruction terms spell an operation word that the decoder reads back as the same row.

Every field has exactly the width its row leaves free, so one check is left: a CMD write with exactly one command bit is
spelled by that command's own row, and `hwCmd` by the other five values of DATA[2:0] (30_encoding.md R101). -/

namespace Sys2Proof

/-- DATA[2:0] holds exactly one command bit (10_state.md R45). -/
abbrev oneCommand (data : Word) : Bool :=
  data.extractLsb' 0 3 == 1#3 || data.extractLsb' 0 3 == 2#3 || data.extractLsb' 0 3 == 4#3

/-- The instruction is the canonical spelling of its row. -/
abbrev Instr.wellFormed (i : Instr) : Bool :=
  match i with
  | .hwCmd _ data => !oneCommand data
  | _ => true

end Sys2Proof
end

