-- ==== Sys2Proof/Decode.lean ====
section
/-! DEFINITION. The decoder, total on operation words, and the encoder (30_encoding.md R100 to R110).

One decoding result per word. Where several rows of the opcode table have the same word (R107), the decoder answers the
row that holds in the widest case (TICK) or in a responder at rest (BUS.ADDR.NOMATCH, BUS.WB.NONE, BUS.RB.NONE);
`Machine/RowSelect.lean` then selects the row by the state, as R107 says. -/

namespace Sys2Proof

/-- Why a word spells no event: the reserved operation words of R110, one reason each. -/
inductive DecodeError where
  /-- K = 0x0 or 0x6 to 0xF -/
  | reservedKind (k : BitVec 4)
  /-- an HR word with `op[31:0]` ≠ 0 -/
  | hostReadNonzero
  /-- a TK word with `op[39:0]` ≠ 0 -/
  | tickNonzero
  /-- an RS word with `op[39:0]` ≠ 0 -/
  | resetNonzero
  /-- a BE word with EV = 0x5 to 0xF -/
  | reservedBusEvent (ev : BitVec 4)
  /-- a BE word with `op[35:8]` ≠ 0 -/
  | busNonzero
  /-- an RB, STOP or BERR word with PAY ≠ 0 -/
  | busPayloadNonzero
  deriving DecidableEq, Repr

/-- A write to CMD (R101): by its command bits, DATA[2:0]. -/
def decodeCmd (lo : BitVec 2) (data : Word) : Instr :=
  match (data.extractLsb' 0 3).toNat with
  | 1 => .hwCmdSeqStart lo (data.extractLsb' 3 29)
  | 2 => .hwCmdSeqStop lo (data.extractLsb' 3 29)
  | 4 => .hwCmdCalLoad lo (data.extractLsb' 3 29)
  | _ => .hwCmd lo data

/-- Format HW (R101): the register is selected by OFF[7:2] (R107). -/
def decodeHostWrite (off : BitVec 8) (data : Word) : Instr :=
  match (off.extractLsb' 2 6).toNat with
  | 0 => decodeCmd (off.extractLsb' 0 2) data
  | 1 => .hwCfg (off.extractLsb' 0 2) data
  | 2 => .hwStatus (off.extractLsb' 0 2) data
  | 3 => .hwPressure (off.extractLsb' 0 2) data
  | 4 => .hwTemperature (off.extractLsb' 0 2) data
  | 5 => .hwRawD1 (off.extractLsb' 0 2) data
  | 6 => .hwRawD2 (off.extractLsb' 0 2) data
  | 7 => .hwTxHold (off.extractLsb' 0 2) data
  | 8 => .hwRxData (off.extractLsb' 0 2) data
  | 9 => .hwCal0 (off.extractLsb' 0 2) data
  | 10 => .hwCal1 (off.extractLsb' 0 2) data
  | 11 => .hwCal2 (off.extractLsb' 0 2) data
  | 12 => .hwCal3 (off.extractLsb' 0 2) data
  | 13 => .hwCal4 (off.extractLsb' 0 2) data
  | 14 => .hwCal5 (off.extractLsb' 0 2) data
  | 15 => .hwCal6 (off.extractLsb' 0 2) data
  | n =>
    if n < 32 then .hwUnmapped40 (off.extractLsb' 0 6) data else .hwUnmapped80 (off.extractLsb' 0 7) data

/-- Format HR (R102): the register is selected by OFF[7:2] (R107). -/
def decodeHostRead (off : BitVec 8) : Instr :=
  match (off.extractLsb' 2 6).toNat with
  | 0 => .hrCmd (off.extractLsb' 0 2)
  | 1 => .hrCfg (off.extractLsb' 0 2)
  | 2 => .hrStatus (off.extractLsb' 0 2)
  | 3 => .hrPressure (off.extractLsb' 0 2)
  | 4 => .hrTemperature (off.extractLsb' 0 2)
  | 5 => .hrRawD1 (off.extractLsb' 0 2)
  | 6 => .hrRawD2 (off.extractLsb' 0 2)
  | 7 => .hrTxHold (off.extractLsb' 0 2)
  | 8 => .hrRxData (off.extractLsb' 0 2)
  | 9 => .hrCal0 (off.extractLsb' 0 2)
  | 10 => .hrCal1 (off.extractLsb' 0 2)
  | 11 => .hrCal2 (off.extractLsb' 0 2)
  | 12 => .hrCal3 (off.extractLsb' 0 2)
  | 13 => .hrCal4 (off.extractLsb' 0 2)
  | 14 => .hrCal5 (off.extractLsb' 0 2)
  | 15 => .hrCal6 (off.extractLsb' 0 2)
  | n => if n < 32 then .hrUnmapped40 (off.extractLsb' 0 6) else .hrUnmapped80 (off.extractLsb' 0 7)

/-- Format BE (R104): EV, then PAY. -/
def decodeBusEvent (ev : BitVec 4) (zero : BitVec 28) (pay : Byte) : Except DecodeError Instr :=
  if 5 ≤ ev.toNat then .error (.reservedBusEvent ev)
  else if zero ≠ 0#28 then .error .busNonzero
  else
    match ev.toNat with
    | 0 => .ok (.busAddrNomatch (pay.extractLsb' 1 7) (pay.getLsbD 0))
    | 1 => .ok (.busWbNone pay)
    | n =>
      if pay ≠ 0#8 then .error .busPayloadNonzero
      else if n = 2 then .ok .busRbNone
      else if n = 3 then .ok .busStop
      else .ok .busBerr

/-- The decoder (R100 to R107), with the reserved words refused by name (R110). -/
def decode (op : OpWord) : Except DecodeError Instr :=
  match (op.extractLsb' 40 4).toNat with
  | 1 => .ok (decodeHostWrite (op.extractLsb' 32 8) (op.extractLsb' 0 32))
  | 2 =>
    if op.extractLsb' 0 32 ≠ 0#32 then .error .hostReadNonzero
    else .ok (decodeHostRead (op.extractLsb' 32 8))
  | 3 => if op.extractLsb' 0 40 ≠ 0#40 then .error .tickNonzero else .ok .tick
  | 4 => decodeBusEvent (op.extractLsb' 36 4) (op.extractLsb' 8 28) (op.extractLsb' 0 8)
  | 5 => if op.extractLsb' 0 40 ≠ 0#40 then .error .resetNonzero else .ok .reset
  | _ => .error (.reservedKind (op.extractLsb' 40 4))

/-- Format HW: K = 0x1, OFF = {OFF[7:2], OFF[1:0]}, DATA (R101). -/
def hostWriteWord (reg : BitVec 6) (lo : BitVec 2) (data : Word) : OpWord := 0x1#4 ++ reg ++ lo ++ data

/-- Format HR: K = 0x2, OFF, zero (R102). -/
def hostReadWord (reg : BitVec 6) (lo : BitVec 2) : OpWord := 0x2#4 ++ reg ++ lo ++ 0#32

/-- Format TK: K = 0x3, zero (R103). -/
def tickWord : OpWord := 0x3#4 ++ 0#40

/-- Format BE: K = 0x4, EV, zero, PAY (R104). -/
def busEventWord (ev : BitVec 4) (pay : Byte) : OpWord := 0x4#4 ++ ev ++ 0#28 ++ pay

/-- Format RS: K = 0x5, zero (R105). -/
def resetWord : OpWord := 0x5#4 ++ 0#40

/-- The operation word of an instruction. -/
def encode (i : Instr) : OpWord :=
  match i with
  | .hwCmd lo data => hostWriteWord 0#6 lo data
  | .hwCmdSeqStop lo rsv => hostWriteWord 0#6 lo (rsv ++ 0b010#3)
  | .hwCmdSeqStart lo rsv => hostWriteWord 0#6 lo (rsv ++ 0b001#3)
  | .hwCmdCalLoad lo rsv => hostWriteWord 0#6 lo (rsv ++ 0b100#3)
  | .hwCfg lo data => hostWriteWord 1#6 lo data
  | .hwStatus lo data => hostWriteWord 2#6 lo data
  | .hwPressure lo data => hostWriteWord 3#6 lo data
  | .hwTemperature lo data => hostWriteWord 4#6 lo data
  | .hwRawD1 lo data => hostWriteWord 5#6 lo data
  | .hwRawD2 lo data => hostWriteWord 6#6 lo data
  | .hwTxHold lo data => hostWriteWord 7#6 lo data
  | .hwRxData lo data => hostWriteWord 8#6 lo data
  | .hwCal0 lo data => hostWriteWord 9#6 lo data
  | .hwCal1 lo data => hostWriteWord 10#6 lo data
  | .hwCal2 lo data => hostWriteWord 11#6 lo data
  | .hwCal3 lo data => hostWriteWord 12#6 lo data
  | .hwCal4 lo data => hostWriteWord 13#6 lo data
  | .hwCal5 lo data => hostWriteWord 14#6 lo data
  | .hwCal6 lo data => hostWriteWord 15#6 lo data
  | .hwUnmapped40 off data => hostWriteWord (0b01#2 ++ off.extractLsb' 2 4) (off.extractLsb' 0 2) data
  | .hwUnmapped80 off data => hostWriteWord (0b1#1 ++ off.extractLsb' 2 5) (off.extractLsb' 0 2) data
  | .hrCmd lo => hostReadWord 0#6 lo
  | .hrCfg lo => hostReadWord 1#6 lo
  | .hrStatus lo => hostReadWord 2#6 lo
  | .hrPressure lo => hostReadWord 3#6 lo
  | .hrTemperature lo => hostReadWord 4#6 lo
  | .hrRawD1 lo => hostReadWord 5#6 lo
  | .hrRawD2 lo => hostReadWord 6#6 lo
  | .hrTxHold lo => hostReadWord 7#6 lo
  | .hrRxData lo => hostReadWord 8#6 lo
  | .hrCal0 lo => hostReadWord 9#6 lo
  | .hrCal1 lo => hostReadWord 10#6 lo
  | .hrCal2 lo => hostReadWord 11#6 lo
  | .hrCal3 lo => hostReadWord 12#6 lo
  | .hrCal4 lo => hostReadWord 13#6 lo
  | .hrCal5 lo => hostReadWord 14#6 lo
  | .hrCal6 lo => hostReadWord 15#6 lo
  | .hrUnmapped40 off => hostReadWord (0b01#2 ++ off.extractLsb' 2 4) (off.extractLsb' 0 2)
  | .hrUnmapped80 off => hostReadWord (0b1#1 ++ off.extractLsb' 2 5) (off.extractLsb' 0 2)
  | .tick => tickWord
  | .tickLIdle => tickWord
  | .tickLReset => tickWord
  | .tickLWait => tickWord
  | .tickLProm => tickWord
  | .tickIdle => tickWord
  | .tickStartP => tickWord
  | .tickWaitP => tickWord
  | .tickReadP => tickWord
  | .tickStartT => tickWord
  | .tickWaitT => tickWord
  | .tickReadT => tickWord
  | .tickCalc => tickWord
  | .tickError => tickWord
  | .busAddrWMatch a7 => busEventWord 0x0#4 (a7 ++ 0#1)
  | .busAddrRMatch a7 => busEventWord 0x0#4 (a7 ++ 1#1)
  | .busAddrNomatch a7 rw => busEventWord 0x0#4 (a7 ++ BitVec.ofBool rw)
  | .busWbRx b => busEventWord 0x1#4 b
  | .busWbRxLast b => busEventWord 0x1#4 b
  | .busWbNone b => busEventWord 0x1#4 b
  | .busWbTx b => busEventWord 0x1#4 b
  | .busRbTx => busEventWord 0x2#4 0#8
  | .busRbTxLast => busEventWord 0x2#4 0#8
  | .busRbNone => busEventWord 0x2#4 0#8
  | .busRbRx => busEventWord 0x2#4 0#8
  | .busStop => busEventWord 0x3#4 0#8
  | .busBerr => busEventWord 0x4#4 0#8
  | .reset => resetWord

/-- The row the decoder answers for the instruction's word: the instruction itself, but for the rows that share their
word with others (R107). -/
def canonical (i : Instr) : Instr :=
  match i with
  | .tickLIdle | .tickLReset | .tickLWait | .tickLProm | .tickIdle | .tickStartP
  | .tickWaitP | .tickReadP | .tickStartT | .tickWaitT | .tickReadT | .tickCalc | .tickError => .tick
  | .busAddrWMatch a7 => .busAddrNomatch a7 false
  | .busAddrRMatch a7 => .busAddrNomatch a7 true
  | .busWbRx b | .busWbRxLast b | .busWbTx b => .busWbNone b
  | .busRbTx | .busRbTxLast | .busRbRx => .busRbNone
  | i => i

/-- A row of spec/opcode_table.json: an operation word `op` fits it when `op &&& mask = pattern`. -/
structure TableRow where
  mnemonic : String
  pattern : OpWord
  mask : OpWord
  deriving DecidableEq, Repr

/-- The row of spec/opcode_table.json an instruction stands for. -/
def tableRow (i : Instr) : TableRow :=
  match i with
  | .hwCmd .. => ⟨"HW.CMD", 0x10000000000#44, 0xFFC00000000#44⟩
  | .hwCmdSeqStop .. => ⟨"HW.CMD.SEQ_STOP", 0x10000000002#44, 0xFFC00000002#44⟩
  | .hwCmdSeqStart .. => ⟨"HW.CMD.SEQ_START", 0x10000000001#44, 0xFFC00000001#44⟩
  | .hwCmdCalLoad .. => ⟨"HW.CMD.CAL_LOAD", 0x10000000004#44, 0xFFC00000004#44⟩
  | .hwCfg .. => ⟨"HW.CFG", 0x10400000000#44, 0xFFC00000000#44⟩
  | .hwStatus .. => ⟨"HW.STATUS", 0x10800000000#44, 0xFFC00000000#44⟩
  | .hwPressure .. => ⟨"HW.PRESSURE", 0x10C00000000#44, 0xFFC00000000#44⟩
  | .hwTemperature .. => ⟨"HW.TEMPERATURE", 0x11000000000#44, 0xFFC00000000#44⟩
  | .hwRawD1 .. => ⟨"HW.RAW_D1", 0x11400000000#44, 0xFFC00000000#44⟩
  | .hwRawD2 .. => ⟨"HW.RAW_D2", 0x11800000000#44, 0xFFC00000000#44⟩
  | .hwTxHold .. => ⟨"HW.TX_HOLD", 0x11C00000000#44, 0xFFC00000000#44⟩
  | .hwRxData .. => ⟨"HW.RX_DATA", 0x12000000000#44, 0xFFC00000000#44⟩
  | .hwCal0 .. => ⟨"HW.CAL0", 0x12400000000#44, 0xFFC00000000#44⟩
  | .hwCal1 .. => ⟨"HW.CAL1", 0x12800000000#44, 0xFFC00000000#44⟩
  | .hwCal2 .. => ⟨"HW.CAL2", 0x12C00000000#44, 0xFFC00000000#44⟩
  | .hwCal3 .. => ⟨"HW.CAL3", 0x13000000000#44, 0xFFC00000000#44⟩
  | .hwCal4 .. => ⟨"HW.CAL4", 0x13400000000#44, 0xFFC00000000#44⟩
  | .hwCal5 .. => ⟨"HW.CAL5", 0x13800000000#44, 0xFFC00000000#44⟩
  | .hwCal6 .. => ⟨"HW.CAL6", 0x13C00000000#44, 0xFFC00000000#44⟩
  | .hwUnmapped40 .. => ⟨"HW.UNMAPPED.40", 0x14000000000#44, 0xFC000000000#44⟩
  | .hwUnmapped80 .. => ⟨"HW.UNMAPPED.80", 0x18000000000#44, 0xF8000000000#44⟩
  | .hrCmd .. => ⟨"HR.CMD", 0x20000000000#44, 0xFFCFFFFFFFF#44⟩
  | .hrCfg .. => ⟨"HR.CFG", 0x20400000000#44, 0xFFCFFFFFFFF#44⟩
  | .hrStatus .. => ⟨"HR.STATUS", 0x20800000000#44, 0xFFCFFFFFFFF#44⟩
  | .hrPressure .. => ⟨"HR.PRESSURE", 0x20C00000000#44, 0xFFCFFFFFFFF#44⟩
  | .hrTemperature .. => ⟨"HR.TEMPERATURE", 0x21000000000#44, 0xFFCFFFFFFFF#44⟩
  | .hrRawD1 .. => ⟨"HR.RAW_D1", 0x21400000000#44, 0xFFCFFFFFFFF#44⟩
  | .hrRawD2 .. => ⟨"HR.RAW_D2", 0x21800000000#44, 0xFFCFFFFFFFF#44⟩
  | .hrTxHold .. => ⟨"HR.TX_HOLD", 0x21C00000000#44, 0xFFCFFFFFFFF#44⟩
  | .hrRxData .. => ⟨"HR.RX_DATA", 0x22000000000#44, 0xFFCFFFFFFFF#44⟩
  | .hrCal0 .. => ⟨"HR.CAL0", 0x22400000000#44, 0xFFCFFFFFFFF#44⟩
  | .hrCal1 .. => ⟨"HR.CAL1", 0x22800000000#44, 0xFFCFFFFFFFF#44⟩
  | .hrCal2 .. => ⟨"HR.CAL2", 0x22C00000000#44, 0xFFCFFFFFFFF#44⟩
  | .hrCal3 .. => ⟨"HR.CAL3", 0x23000000000#44, 0xFFCFFFFFFFF#44⟩
  | .hrCal4 .. => ⟨"HR.CAL4", 0x23400000000#44, 0xFFCFFFFFFFF#44⟩
  | .hrCal5 .. => ⟨"HR.CAL5", 0x23800000000#44, 0xFFCFFFFFFFF#44⟩
  | .hrCal6 .. => ⟨"HR.CAL6", 0x23C00000000#44, 0xFFCFFFFFFFF#44⟩
  | .hrUnmapped40 .. => ⟨"HR.UNMAPPED.40", 0x24000000000#44, 0xFC0FFFFFFFF#44⟩
  | .hrUnmapped80 .. => ⟨"HR.UNMAPPED.80", 0x28000000000#44, 0xF80FFFFFFFF#44⟩
  | .tick .. => ⟨"TICK", 0x30000000000#44, 0xFFFFFFFFFFF#44⟩
  | .tickLIdle .. => ⟨"TICK.L_IDLE", 0x30000000000#44, 0xFFFFFFFFFFF#44⟩
  | .tickLReset .. => ⟨"TICK.L_RESET", 0x30000000000#44, 0xFFFFFFFFFFF#44⟩
  | .tickLWait .. => ⟨"TICK.L_WAIT", 0x30000000000#44, 0xFFFFFFFFFFF#44⟩
  | .tickLProm .. => ⟨"TICK.L_PROM", 0x30000000000#44, 0xFFFFFFFFFFF#44⟩
  | .tickIdle .. => ⟨"TICK.IDLE", 0x30000000000#44, 0xFFFFFFFFFFF#44⟩
  | .tickStartP .. => ⟨"TICK.START_P", 0x30000000000#44, 0xFFFFFFFFFFF#44⟩
  | .tickWaitP .. => ⟨"TICK.WAIT_P", 0x30000000000#44, 0xFFFFFFFFFFF#44⟩
  | .tickReadP .. => ⟨"TICK.READ_P", 0x30000000000#44, 0xFFFFFFFFFFF#44⟩
  | .tickStartT .. => ⟨"TICK.START_T", 0x30000000000#44, 0xFFFFFFFFFFF#44⟩
  | .tickWaitT .. => ⟨"TICK.WAIT_T", 0x30000000000#44, 0xFFFFFFFFFFF#44⟩
  | .tickReadT .. => ⟨"TICK.READ_T", 0x30000000000#44, 0xFFFFFFFFFFF#44⟩
  | .tickCalc .. => ⟨"TICK.CALC", 0x30000000000#44, 0xFFFFFFFFFFF#44⟩
  | .tickError .. => ⟨"TICK.ERROR", 0x30000000000#44, 0xFFFFFFFFFFF#44⟩
  | .busAddrWMatch .. => ⟨"BUS.ADDR.W.MATCH", 0x40000000000#44, 0xFFFFFFFFF01#44⟩
  | .busAddrRMatch .. => ⟨"BUS.ADDR.R.MATCH", 0x40000000001#44, 0xFFFFFFFFF01#44⟩
  | .busAddrNomatch .. => ⟨"BUS.ADDR.NOMATCH", 0x40000000000#44, 0xFFFFFFFFF00#44⟩
  | .busWbRx .. => ⟨"BUS.WB.RX", 0x41000000000#44, 0xFFFFFFFFF00#44⟩
  | .busWbRxLast .. => ⟨"BUS.WB.RX.LAST", 0x41000000000#44, 0xFFFFFFFFF00#44⟩
  | .busWbNone .. => ⟨"BUS.WB.NONE", 0x41000000000#44, 0xFFFFFFFFF00#44⟩
  | .busWbTx .. => ⟨"BUS.WB.TX", 0x41000000000#44, 0xFFFFFFFFF00#44⟩
  | .busRbTx .. => ⟨"BUS.RB.TX", 0x42000000000#44, 0xFFFFFFFFFFF#44⟩
  | .busRbTxLast .. => ⟨"BUS.RB.TX.LAST", 0x42000000000#44, 0xFFFFFFFFFFF#44⟩
  | .busRbNone .. => ⟨"BUS.RB.NONE", 0x42000000000#44, 0xFFFFFFFFFFF#44⟩
  | .busRbRx .. => ⟨"BUS.RB.RX", 0x42000000000#44, 0xFFFFFFFFFFF#44⟩
  | .busStop .. => ⟨"BUS.STOP", 0x43000000000#44, 0xFFFFFFFFFFF#44⟩
  | .busBerr .. => ⟨"BUS.BERR", 0x44000000000#44, 0xFFFFFFFFFFF#44⟩
  | .reset .. => ⟨"RESET", 0x50000000000#44, 0xFFFFFFFFFFF#44⟩

/-- The operation word spelled by an instruction of `nbits` bits whose bits, bit 0 the least significant, are those of
`w`; none where a bit above `op[43]` is set. -/
def opWordOf (nbits w : Nat) : Option OpWord :=
  if w % 2 ^ nbits < 2 ^ 44 then some (BitVec.ofNat 44 (w % 2 ^ nbits)) else none

/-- The instruction the decoder reads from the instruction whose bits are `w` (the table's numbering: an operation word
is one 44-bit number, R100). -/
def decodeTableWord (nbits w : Nat) : Option Instr :=
  match opWordOf nbits w with
  | none => none
  | some op =>
    match decode op with
    | .ok i => some i
    | .error _ => none

end Sys2Proof
end

