-- ==== Sys2Proof/Machine/State.lean ====
section
/-! DEFINITION. The state of the core (10_state.md), the outside world's inputs and the core's outputs as plain data, the
reasons a step can stop, and the reset state (R51).

The core has no general register, no program counter and no memory (R20, R70). Its state is grouped by sub-block as
10_state.md groups it. Three groups are the model's own and no state of the core: `params` (the configuration, R10),
`env` (the events and sensor answers the outside world has ready, R15, R18) and `ports` (what the event just executed gave
to the outside, R48). -/

namespace Sys2Proof.Machine

/-- SEQ_STATE (R21). `reserved k` is the code 9 + k, which no rule writes (R22). -/
inductive SeqState where
  | idle
  | startP
  | waitP
  | readP
  | startT
  | waitT
  | readT
  | calc
  | error
  | reserved (k : Fin 7)
  deriving DecidableEq, Repr

/-- LDR_PHASE (R30). -/
inductive LdrPhase where
  | lIdle
  | lReset
  | lWait
  | lProm
  deriving DecidableEq, Repr

/-- SLV_DIR (R32). `reserved` is the code 3, which no rule writes. -/
inductive SlvDir where
  | none
  | receiving
  | transmitting
  | reserved
  deriving DecidableEq, Repr

/-- Section 2 of 10_state.md: the conversion sequencer. -/
structure Sequencer where
  /-- SEQ_STATE, 4 bits (R21) -/
  state : SeqState
  /-- WAIT_CNT, an unsigned count of `params.waitCntWidth` bits, 8 by default (R10, R23): below 2 to that power, which every
  step keeps (`CoreInv.waitFits`) -/
  waitCnt : Nat
  /-- RAW_D1 (R24) -/
  rawD1 : Code24
  /-- RAW_D2 (R24) -/
  rawD2 : Code24
  /-- LAST_FAIL_STATE (R25) -/
  lastFailState : BitVec 4
  deriving DecidableEq, Repr

/-- Section 3: the calibration set and its loader. -/
structure Loader where
  /-- CAL[0..6] (R26) -/
  cal : Seven Half
  /-- CAL_VALID (R27) -/
  calValid : Bool
  /-- CAL_BUSY (R28) -/
  calBusy : Bool
  /-- CAL_ERR (R29) -/
  calErr : Bool
  /-- LDR_PHASE, 2 bits (R30) -/
  phase : LdrPhase
  /-- LDR_CNT (R30) -/
  cnt : BitVec 8
  deriving DecidableEq, Repr

/-- Section 4: the latest-reading cell (R31). -/
structure Reading where
  /-- PRESSURE, two's complement, 0.01 mbar -/
  pressure : Word
  /-- TEMPERATURE, two's complement, 0.01 °C -/
  temperature : Word
  /-- READING_VALID -/
  valid : Bool
  deriving DecidableEq, Repr

/-- Section 5: the slave-bus responder. -/
structure Responder where
  /-- SLV_DIR, 2 bits (R32) -/
  dir : SlvDir
  /-- BCNT (R33) -/
  bcnt : BitVec 3
  /-- RXBUF (R34) -/
  rxbuf : Word
  /-- TXBUF (R35) -/
  txbuf : Word
  /-- RX_DATA (R36) -/
  rxData : Word
  /-- RX_READY (R37) -/
  rxReady : Bool
  /-- TX_HOLD (R38) -/
  txHold : Word
  deriving DecidableEq, Repr

/-- Section 6: configuration and command state. -/
structure HostRegs where
  /-- SLV_EN (R39) -/
  slvEn : Bool
  /-- RX_IE (R40) -/
  rxIe : Bool
  /-- WAIT_TICKS (R41) -/
  waitTicks : BitVec 8
  /-- SLV_ADDR (R42) -/
  slvAddr : BitVec 7
  /-- CMD_REJ (R43) -/
  cmdRej : Bool
  deriving DecidableEq, Repr

/-- The outside world, the MODEL's own: the events of all agents in the one total order in which the core takes them
(R18, R83), the sensor transport's answers that are already given (R15), and how many answers have been drawn since they
ran out. -/
structure Env where
  events : List OpWord
  answers : List Config.SensorAnswer
  draws : Nat
  deriving DecidableEq, Repr

/-- A call of the sensor transport (R15, R74). -/
inductive SensorCall where
  /-- `SensorWrite(cmd8)` -/
  | write (cmd : Byte)
  /-- `SensorRead(n)` -/
  | read (n : Nat)
  deriving DecidableEq, Repr

/-- The responder's answer to the bus transport (R15, R220). -/
inductive BusAnswer where
  | ack
  | nack
  /-- `BusDrive(b8)` -/
  | drive (b : Byte)
  deriving DecidableEq, Repr

/-- The outputs of one event, the MODEL's own record of them: "produced inside events and hold no state" (R48). `step`
clears it before each event. -/
structure Ports where
  /-- the value a HostRead returns (R260) -/
  hostData : Option Word := .none
  /-- the answer of a bus event (R220) -/
  busAnswer : Option BusAnswer := .none
  /-- the sensor-transport calls issued, in order (R316) -/
  sensorCalls : List SensorCall := []
  deriving DecidableEq, Repr

/-- The machine: every state element of 10_state.md, and the model's own `params`, `env` and `ports`. -/
structure State where
  seq : Sequencer
  ldr : Loader
  reading : Reading
  slv : Responder
  cfg : HostRegs
  params : Config.Params
  env : Env
  ports : Ports
  deriving DecidableEq, Repr

/-- Faults. There are none: "A model therefore has no fault outcome for any well-formed event" (R307). Raised by nobody. -/
inductive Fault where
  deriving DecidableEq, Repr

/-- Refusals. -/
inductive Refusal where
  /-- An instruction whose meaning is not written yet. Raised by `exec`'s refused arms only; safe. -/
  | notModelled (mnemonic : String)
  /-- The next operation word is reserved and spells no event: "a model's decoder refuses it by name and the machine gives
  it no step" (R110). Raised by `step`; safe. -/
  | reservedWord (reason : DecodeError)
  /-- The state holds a code that is never held: SEQ_STATE 9 to 15, SLV_DIR 3, BCNT 5 to 7 (R22, R32, R33, R109), or a
  BCNT of 4 inside a transfer, for which no rule has a row (R33). Raised by `step`, and by the tick and byte events whose
  rule such a code would select; safe. -/
  | neverHeldState
  deriving DecidableEq, Repr

/-- The outcome of one event. -/
abbrev Out := Host.Outcome State Fault Refusal

/-- Every state element at its reset value (R51), in an instance with the parameters `p`, with nothing ready outside and
nothing given out. -/
def State.resetWith (p : Config.Params) : State where
  seq := { state := .idle, waitCnt := 0, rawD1 := 0#24, rawD2 := 0#24, lastFailState := 0#4 }
  ldr := { cal := ⟨0#16, 0#16, 0#16, 0#16, 0#16, 0#16, 0#16⟩, calValid := false, calBusy := false, calErr := false,
           phase := .lIdle, cnt := 0#8 }
  reading := { pressure := 0#32, temperature := 0#32, valid := false }
  slv := { dir := .none, bcnt := 0#3, rxbuf := 0#32, txbuf := 0#32, rxData := 0#32, rxReady := false, txHold := 0#32 }
  cfg := { slvEn := false, rxIe := false, waitTicks := p.waitTicksReset, slvAddr := p.slaveAddrReset, cmdRej := false }
  params := p
  env := { events := [], answers := [], draws := 0 }
  ports := {}

/-- The machine right after reset or power-up (R51, R342), in the instance with every parameter at its default (R10). -/
def State.reset : State := State.resetWith Config.Params.default

end Sys2Proof.Machine
end

