-- ==== Sys2Proof/Machine/Operands.lean ====
section
/-! DEFINITION. Operand assembly: the byte lanes of a bus word (R34, R35, R75), the raw ADC code (R76), the PROM word
(R77, R173) and the codes of the state names (R21, R30, R32). -/

namespace Sys2Proof.Machine

open Config

/-- `{b3, b2, b1, b0}`: the 32-bit word whose byte 0 is `b0` (R75). -/
def leDecode (b0 b1 b2 b3 : Byte) : Word := b3 ++ b2 ++ b1 ++ b0

/-- `w[8k+7:8k]`: byte k of a bus word, byte 0 the least significant (R35, R75). -/
def getLane (w : Word) (k : Nat) : Byte := w.extractLsb' (8 * k) 8

/-- `w[8k+7:8k] <- b`, k = 0..3 (R34, R225). -/
def setLane (w : Word) (k : Nat) (b : Byte) : Word :=
  match k with
  | 0 => leDecode b (getLane w 1) (getLane w 2) (getLane w 3)
  | 1 => leDecode (getLane w 0) b (getLane w 2) (getLane w 3)
  | 2 => leDecode (getLane w 0) (getLane w 1) b (getLane w 3)
  | 3 => leDecode (getLane w 0) (getLane w 1) (getLane w 2) b
  | _ => w

/-- `LE_encode(w)` (R75). -/
def leEncode (w : Word) : List Byte := [getLane w 0, getLane w 1, getLane w 2, getLane w 3]

/-- The data bytes of a successful `SensorRead`, in wire order; `SensorRead(2)` uses the first two. -/
structure SensorBytes where
  b0 : Byte
  b1 : Byte
  b2 : Byte
  deriving DecidableEq, Repr

/-- `{b0, b1, b2}`: a raw ADC code is read big-endian (R76). -/
def adcCode (q : SensorBytes) : Code24 := q.b0 ++ q.b1 ++ q.b2

/-- `prom_word(b0, b1)` (R77, R173). -/
def promWord (order : PromWordOrder) (q : SensorBytes) : Half :=
  match order with
  | .bigEndian => q.b0 ++ q.b1
  | .littleEndian => q.b1 ++ q.b0

/-- The code of SEQ_STATE (R21). -/
def SeqState.code (x : SeqState) : BitVec 4 :=
  match x with
  | .idle => 0#4
  | .startP => 1#4
  | .waitP => 2#4
  | .readP => 3#4
  | .startT => 4#4
  | .waitT => 5#4
  | .readT => 6#4
  | .calc => 7#4
  | .error => 8#4
  | .reserved k => BitVec.ofNat 4 (9 + k.val)

/-- The code of LDR_PHASE (R30). -/
def LdrPhase.code (x : LdrPhase) : BitVec 2 :=
  match x with
  | .lIdle => 0#2
  | .lReset => 1#2
  | .lWait => 2#2
  | .lProm => 3#2

/-- The code of SLV_DIR (R32). -/
def SlvDir.code (x : SlvDir) : BitVec 2 :=
  match x with
  | .none => 0#2
  | .receiving => 1#2
  | .transmitting => 2#2
  | .reserved => 3#2

/-- Whether SEQ_STATE holds one of the codes 0 to 8 (R22). -/
def SeqState.isHeld (x : SeqState) : Bool :=
  match x with
  | .reserved _ => false
  | _ => true

end Sys2Proof.Machine
end

