-- ==== Sys2Proof/Machine/Flags.lean ====
section
/-! DEFINITION. The one-bit conditions the rules test and the register words the host reads: command acceptance (R143,
R144), address match (R221), irq (R310), the never-held codes (R109), STATUS (R47, R272) and CFG (R46, R271). -/

namespace Sys2Proof.Machine

/-- SEQ_START is accepted: SEQ_STATE = IDLE and CAL_VALID = 1 (R143). -/
def State.startAccepted (s : State) : Bool := s.seq.state == .idle && s.ldr.calValid

/-- CAL_LOAD is accepted: CAL_VALID = 0, CAL_BUSY = 0 and SEQ_STATE = IDLE (R144). -/
def State.loadAccepted (s : State) : Bool := !s.ldr.calValid && !s.ldr.calBusy && s.seq.state == .idle

/-- `match(a7)`: SLV_EN = 1 and a7 = SLV_ADDR (R221). -/
def State.addrMatch (s : State) (a7 : BitVec 7) : Bool := s.cfg.slvEn && a7 == s.cfg.slvAddr

/-- The interrupt output, a level: RX_READY and RX_IE (R48, R310). -/
def State.irq (s : State) : Bool := s.slv.rxReady && s.cfg.rxIe

/-- The state holds none of the never-held codes: SEQ_STATE 9 to 15, SLV_DIR 3, BCNT 5 to 7 (R109). -/
def State.isHeld (s : State) : Bool :=
  s.seq.state.isHeld && s.slv.dir != .reserved && decide (s.slv.bcnt.toNat ≤ 4)

/-- `WAIT_CNT[7:0]`, the field STATUS.WAIT_CNT: the low 8 bits of the count, whatever its width (R12, R272). -/
def State.waitCntField (s : State) : BitVec 8 := BitVec.ofNat 8 s.seq.waitCnt

/-- STATUS as the host reads it (R47, R272). -/
def State.statusWord (s : State) : Word :=
  s.waitCntField ++ 0#1 ++ s.slv.bcnt ++ s.seq.lastFailState ++ 0#2 ++ s.ldr.phase.code ++ BitVec.ofBool s.cfg.cmdRej ++
    BitVec.ofBool s.slv.rxReady ++ s.slv.dir.code ++ BitVec.ofBool s.ldr.calErr ++ BitVec.ofBool s.ldr.calBusy ++
    BitVec.ofBool s.ldr.calValid ++ BitVec.ofBool s.reading.valid ++ s.seq.state.code

/-- CFG as the host reads it (R46, R271). -/
def State.cfgWord (s : State) : Word :=
  0#9 ++ s.cfg.slvAddr ++ s.cfg.waitTicks ++ 0#6 ++ BitVec.ofBool s.cfg.rxIe ++ BitVec.ofBool s.cfg.slvEn

end Sys2Proof.Machine
end

