-- ==== Sys2Proof/Machine/Ops.lean ====
section
/-! DEFINITION. The operations the rules share: the saturating counters (R13), the sensor transport's calls and their
drawn answers (R15), the answers to the host and to the bus (R220, R260), the end of a bus transfer (R227 to R233), and
the core's one trap-like mechanism, error entry, with the return from it beside it (R158, R160, R320, R321). -/

namespace Sys2Proof.Machine

open Config

/-- `satdec(c)` (R13) of a count of any width. -/
def satdec (c : Nat) : Nat := if c = 0 then 0 else c - 1

/-- `satdec(c)` (R13) of an 8-bit register. -/
def satdec8 (c : BitVec 8) : BitVec 8 := if c = 0#8 then 0#8 else c - 1#8

/-- `satinc_N(c)` (R13), N = `n`. -/
def satinc (n c : Nat) : Nat := if c = 2 ^ n - 1 then c else c + 1

/-- The settling wait a Start state loads: CFG.WAIT_TICKS (R151, R154), which the 8 bits of R23 always hold; of a counter too
narrow for it the spec says nothing, so a free value that fits. -/
def State.settlingCount (s : State) : Nat :=
  if s.cfg.waitTicks.toNat < 2 ^ s.params.waitCntWidth then s.cfg.waitTicks.toNat
  else freeNarrowCount s.params.waitCntWidth s.cfg.waitTicks % 2 ^ s.params.waitCntWidth

/-- The answers given outside an event are gone when the next begins (R48), and the word at the head is taken. -/
def State.takeEvent (s : State) (rest : List OpWord) : State :=
  { s with env := { s.env with events := rest }, ports := {} }

/-- A HostRead returns `v` (R260). -/
def State.hostAnswer (s : State) (v : Word) : State := { s with ports := { s.ports with hostData := some v } }

/-- `BusAck()`, `BusNack()` or `BusDrive(b)` (R220). -/
def State.busAnswer (s : State) (a : BusAnswer) : State := { s with ports := { s.ports with busAnswer := some a } }

/-- A call goes out on the sensor transport (R15). -/
def State.sensorCall (s : State) (c : SensorCall) : State :=
  { s with ports := { s.ports with sensorCalls := s.ports.sensorCalls ++ [c] } }

/-- The next answer of the sensor transport and the state without it: the one that is ready, else a free value. -/
def State.drawAnswer (s : State) : SensorAnswer × State :=
  match s.env.answers with
  | a :: rest => (a, { s with env := { s.env with answers := rest } })
  | [] => (freeSensorAnswer s.env.draws, { s with env := { s.env with draws := s.env.draws + 1 } })

/-- What a sequence of sensor calls gives: a result, or `none` after a `fail`, and the state the calls left. -/
abbrev Drawn (α : Type) := Option α × State

/-- Go on with the result of the calls so far. After a `fail` no further call is issued (R160, R316, D37). -/
def Drawn.andThen {α β : Type} (r : Drawn α) (f : α → State → Drawn β) : Drawn β :=
  match r with
  | (some a, s) => f a s
  | (none, s) => (none, s)

/-- `SensorWrite(cmd)` (R15). -/
def sensorWrite (cmd : Byte) (s : State) : Drawn Unit :=
  match (s.sensorCall (.write cmd)).drawAnswer with
  | (.ok _ _ _, s') => (some (), s')
  | (.fail, s') => (none, s')

/-- `SensorRead(n)` (R15), n = 2 or 3 (R74). -/
def sensorRead (n : Nat) (s : State) : Drawn SensorBytes :=
  match (s.sensorCall (.read n)).drawAnswer with
  | (.ok b0 b1 b2, s') => (some ⟨b0, b1, b2⟩, s')
  | (.fail, s') => (none, s')

/-- `raise SeqError(code)`: the entry to Error (R160, R320). It saves the failing state's code. -/
def State.seqError (s : State) (code : BitVec 4) : State :=
  { s with
    seq := { s.seq with state := .error, waitCnt := 0, lastFailState := code }
    reading := { s.reading with valid := false } }

/-- The return from Error: back to START_P with nothing restored (R158, R321). -/
def State.seqRetry (s : State) : State := { s with seq := { s.seq with state := .startP, waitCnt := 0 } }

/-- The transfer is over or abandoned: SLV_DIR <- NONE, BCNT <- 0 (R226 to R233, R263). -/
def State.endTransfer (s : State) : State := { s with slv := { s.slv with dir := .none, bcnt := 0#3 } }

/-- `if SLV_DIR ≠ NONE: SLV_DIR <- NONE; BCNT <- 0`, as R227 and R232 write it. -/
def State.dropTransfer (s : State) : State := if s.slv.dir = .none then s else s.endTransfer

/-- A load ends on a transport error: CAL_ERR <- 1, CAL_BUSY <- 0, LDR_PHASE <- L_IDLE (R171, R174, R302). -/
def State.loadFailed (s : State) : State :=
  { s with ldr := { s.ldr with calErr := true, calBusy := false, phase := .lIdle } }

/-- A row of the opcode table that shares its word with other rows: where the row's condition holds its own rule runs,
elsewhere the rule the state selects for that word (R107). -/
def byRow (selected : Bool) (rule other : Out) : Out := if selected then rule else other

end Sys2Proof.Machine
end

