-- ==== Sys2Proof/Machine/Bus.lean ====
section
/-! DEFINITION. The slave-bus responder (42_responder.md R220 to R233). A rule is a function from state to state; an event
with several rows selects its rule by the state. -/

namespace Sys2Proof.Machine

/-- A matching address, the master writes: taken in every direction state (R223). -/
def addrWrite (s : State) : State :=
  { s with slv := { s.slv with dir := .receiving, bcnt := 0#3 } }.busAnswer .ack

/-- A matching address, the master reads: TXBUF is refreshed from TX_HOLD (R224). -/
def addrRead (s : State) : State :=
  { s with slv := { s.slv with txbuf := s.slv.txHold, dir := .transmitting, bcnt := 0#3 } }.busAnswer .ack

/-- An address that does not match: a transfer in flight is a truncated frame (R227). -/
def addrNomatch (s : State) : State := s.dropTransfer.busAnswer .nack

/-- The ADDR event: the rule is selected by the match and by RW (R107, R221). -/
def busAddr (a7 : BitVec 7) (rw : Bool) (s : State) : Out :=
  if s.addrMatch a7 then .next (if rw then addrRead s else addrWrite s) else .next (addrNomatch s)

/-- BUS.ADDR.W.MATCH (R223). -/
def execBusAddrWMatch (a7 : BitVec 7) (s : State) : Out :=
  byRow (s.addrMatch a7) (.next (addrWrite s)) (busAddr a7 false s)

/-- BUS.ADDR.R.MATCH (R224). -/
def execBusAddrRMatch (a7 : BitVec 7) (s : State) : Out :=
  byRow (s.addrMatch a7) (.next (addrRead s)) (busAddr a7 true s)

/-- BUS.ADDR.NOMATCH (R227). -/
def execBusAddrNomatch (a7 : BitVec 7) (rw : Bool) (s : State) : Out :=
  byRow (!s.addrMatch a7) (.next (addrNomatch s)) (busAddr a7 rw s)

/-- A written byte that is not the last: it goes to its place in RXBUF (R225). -/
def writeByte (b : Byte) (s : State) : State :=
  { s with
    slv := { s.slv with rxbuf := setLane s.slv.rxbuf s.slv.bcnt.toNat b, bcnt := s.slv.bcnt + 1#3 } }.busAnswer .ack

/-- The fourth written byte: receive-complete (R226). -/
def writeLastByte (b : Byte) (s : State) : State :=
  { s with
    slv :=
      { s.slv with
        rxbuf := b ++ s.slv.rxbuf.extractLsb' 0 24
        rxData := b ++ s.slv.rxbuf.extractLsb' 0 24
        rxReady := true
        dir := .none
        bcnt := 0#3 } }.busAnswer .ack

/-- A written byte that no transfer takes (R228). -/
def writeByteNone (s : State) : State := s.busAnswer .nack

/-- A written byte in a read transaction: "unexpected direction" (R229). -/
def writeByteTransmitting (s : State) : State := s.endTransfer.busAnswer .nack

/-- The WB event: the rule is selected by SLV_DIR and BCNT (R107, R225 to R229). -/
def busWriteByte (b : Byte) (s : State) : Out :=
  match s.slv.dir with
  | .none => .next (writeByteNone s)
  | .receiving =>
    if s.slv.bcnt.toNat < 3 then .next (writeByte b s)
    else if s.slv.bcnt.toNat = 3 then .next (writeLastByte b s)
    else .refused .neverHeldState
  | .transmitting => .next (writeByteTransmitting s)
  | .reserved => .refused .neverHeldState

/-- BUS.WB.RX (R225). -/
def execBusWbRx (b : Byte) (s : State) : Out :=
  byRow (s.slv.dir == .receiving && decide (s.slv.bcnt.toNat < 3)) (.next (writeByte b s)) (busWriteByte b s)

/-- BUS.WB.RX.LAST (R226). -/
def execBusWbRxLast (b : Byte) (s : State) : Out :=
  byRow (s.slv.dir == .receiving && s.slv.bcnt == 3#3) (.next (writeLastByte b s)) (busWriteByte b s)

/-- BUS.WB.NONE (R228). -/
def execBusWbNone (b : Byte) (s : State) : Out :=
  byRow (s.slv.dir == .none) (.next (writeByteNone s)) (busWriteByte b s)

/-- BUS.WB.TX (R229). -/
def execBusWbTx (b : Byte) (s : State) : Out :=
  byRow (s.slv.dir == .transmitting) (.next (writeByteTransmitting s)) (busWriteByte b s)

/-- A read byte that is not the last: the byte of TXBUF at BCNT is driven (R230). -/
def readByte (s : State) : State :=
  { s with slv := { s.slv with bcnt := s.slv.bcnt + 1#3 } }.busAnswer (.drive (getLane s.slv.txbuf s.slv.bcnt.toNat))

/-- The fourth read byte: transmit-complete (R230). -/
def readLastByte (s : State) : State :=
  s.endTransfer.busAnswer (.drive (getLane s.slv.txbuf s.slv.bcnt.toNat))

/-- A read byte that no transfer serves: OVERRUN_BYTE (R231). -/
def readByteNone (s : State) : State := s.busAnswer (.drive s.params.overrunByte)

/-- A read byte in a write transaction: OVERRUN_BYTE, and the transfer is abandoned (R231). -/
def readByteReceiving (s : State) : State := s.endTransfer.busAnswer (.drive s.params.overrunByte)

/-- The RB event: the rule is selected by SLV_DIR and BCNT (R107, R230, R231). -/
def busReadByte (s : State) : Out :=
  match s.slv.dir with
  | .none => .next (readByteNone s)
  | .receiving => .next (readByteReceiving s)
  | .transmitting =>
    if s.slv.bcnt.toNat < 3 then .next (readByte s)
    else if s.slv.bcnt.toNat = 3 then .next (readLastByte s)
    else .refused .neverHeldState
  | .reserved => .refused .neverHeldState

/-- BUS.RB.TX (R230). -/
def execBusRbTx (s : State) : Out :=
  byRow (s.slv.dir == .transmitting && decide (s.slv.bcnt.toNat < 3)) (.next (readByte s)) (busReadByte s)

/-- BUS.RB.TX.LAST (R230). -/
def execBusRbTxLast (s : State) : Out :=
  byRow (s.slv.dir == .transmitting && s.slv.bcnt == 3#3) (.next (readLastByte s)) (busReadByte s)

/-- BUS.RB.NONE (R231). -/
def execBusRbNone (s : State) : Out := byRow (s.slv.dir == .none) (.next (readByteNone s)) (busReadByte s)

/-- BUS.RB.RX (R231). -/
def execBusRbRx (s : State) : Out := byRow (s.slv.dir == .receiving) (.next (readByteReceiving s)) (busReadByte s)

/-- BUS.STOP: a transfer with fewer than 4 bytes moved is a truncated frame (R232). -/
def execBusStop (s : State) : Out := .next s.dropTransfer

/-- BUS.BERR: the in-flight state is cleared; SLV_EN is unchanged (R233). -/
def execBusBerr (s : State) : Out := .next s.endTransfer

end Sys2Proof.Machine
end

