-- ==== Sys2Proof/Machine/HostRead.lean ====
section
/-! DEFINITION. Host reads (43_host_interface.md R260, R270 to R280). Only the read of RX_DATA changes the core's state
(R80). `_lo` is OFF[1:0], ignored (R72). -/

namespace Sys2Proof.Machine

/-- HR.CMD: the command bits are not stored (R270). -/
def execHrCmd (_lo : BitVec 2) (s : State) : Out := .next (s.hostAnswer 0#32)

/-- HR.CFG (R271). -/
def execHrCfg (_lo : BitVec 2) (s : State) : Out := .next (s.hostAnswer s.cfgWord)

/-- HR.STATUS (R272). -/
def execHrStatus (_lo : BitVec 2) (s : State) : Out := .next (s.hostAnswer s.statusWord)

/-- HR.PRESSURE (R273). -/
def execHrPressure (_lo : BitVec 2) (s : State) : Out := .next (s.hostAnswer s.reading.pressure)

/-- HR.TEMPERATURE (R274). -/
def execHrTemperature (_lo : BitVec 2) (s : State) : Out := .next (s.hostAnswer s.reading.temperature)

/-- HR.RAW_D1 (R276). -/
def execHrRawD1 (_lo : BitVec 2) (s : State) : Out := .next (s.hostAnswer (s.seq.rawD1.zeroExtend 32))

/-- HR.RAW_D2 (R277). -/
def execHrRawD2 (_lo : BitVec 2) (s : State) : Out := .next (s.hostAnswer (s.seq.rawD2.zeroExtend 32))

/-- HR.TX_HOLD (R278). -/
def execHrTxHold (_lo : BitVec 2) (s : State) : Out := .next (s.hostAnswer s.slv.txHold)

/-- HR.RX_DATA: the word is returned and RX_READY cleared in one event (R275, R80). -/
def execHrRxData (_lo : BitVec 2) (s : State) : Out :=
  .next { s.hostAnswer s.slv.rxData with slv := { s.slv with rxReady := false } }

/-- HR.CAL0 (R279). -/
def execHrCal0 (_lo : BitVec 2) (s : State) : Out := .next (s.hostAnswer (s.ldr.cal.c0.zeroExtend 32))

/-- HR.CAL1 (R279). -/
def execHrCal1 (_lo : BitVec 2) (s : State) : Out := .next (s.hostAnswer (s.ldr.cal.c1.zeroExtend 32))

/-- HR.CAL2 (R279). -/
def execHrCal2 (_lo : BitVec 2) (s : State) : Out := .next (s.hostAnswer (s.ldr.cal.c2.zeroExtend 32))

/-- HR.CAL3 (R279). -/
def execHrCal3 (_lo : BitVec 2) (s : State) : Out := .next (s.hostAnswer (s.ldr.cal.c3.zeroExtend 32))

/-- HR.CAL4 (R279). -/
def execHrCal4 (_lo : BitVec 2) (s : State) : Out := .next (s.hostAnswer (s.ldr.cal.c4.zeroExtend 32))

/-- HR.CAL5 (R279). -/
def execHrCal5 (_lo : BitVec 2) (s : State) : Out := .next (s.hostAnswer (s.ldr.cal.c5.zeroExtend 32))

/-- HR.CAL6 (R279). -/
def execHrCal6 (_lo : BitVec 2) (s : State) : Out := .next (s.hostAnswer (s.ldr.cal.c6.zeroExtend 32))

/-- HR.UNMAPPED.40: an unmapped offset reads 0 (R280). -/
def execHrUnmapped40 (_off : BitVec 6) (s : State) : Out := .next (s.hostAnswer 0#32)

/-- HR.UNMAPPED.80 (R280). -/
def execHrUnmapped80 (_off : BitVec 7) (s : State) : Out := .next (s.hostAnswer 0#32)

end Sys2Proof.Machine
end

