-- ==== Sys2Proof/Machine/HostWrite.lean ====
section
/-! DEFINITION. Host writes: the commands of CMD (40_sequencer.md R140 to R144) and the write rules of the other registers
(43_host_interface.md R261 to R266). `_lo` is OFF[1:0], ignored (R72). -/

namespace Sys2Proof.Machine

/-- SEQ_STOP, always accepted (R142). -/
def seqStop (s : State) : State := { s with seq := { s.seq with state := .idle, waitCnt := 0 } }

/-- SEQ_START, once accepted (R143). -/
def seqStart (s : State) : State := { s with seq := { s.seq with state := .startP, waitCnt := 0 } }

/-- CAL_LOAD, once accepted (R144). -/
def calLoad (s : State) : State :=
  { s with ldr := { s.ldr with calBusy := true, calErr := false, phase := .lReset, cnt := 0#8 } }

/-- CMD_REJ <- rej (R141). -/
def setCmdRej (rej : Bool) (s : State) : State := { s with cfg := { s.cfg with cmdRej := rej } }

/-- HostWrite CMD with the command bits `stop`, `start`, `load`: performed in the order SEQ_STOP, SEQ_START, CAL_LOAD,
each on the state the one before it left; CMD_REJ tells whether one was refused (R140, R141). -/
def cmdWrite (stop start load : Bool) (s : State) : State :=
  let s1 := if stop then seqStop s else s
  let s2 := if start && s1.startAccepted then seqStart s1 else s1
  let s3 := if load && s2.loadAccepted then calLoad s2 else s2
  setCmdRej ((start && !s1.startAccepted) || (load && !s2.loadAccepted)) s3

/-- HW.CMD (R140). -/
def execHwCmd (_lo : BitVec 2) (data : Word) (s : State) : Out :=
  .next (cmdWrite (data.getLsbD 1) (data.getLsbD 0) (data.getLsbD 2) s)

/-- HW.CMD.SEQ_STOP: the CMD write whose only command is SEQ_STOP (R142); nothing is refused, so CMD_REJ <- 0 (R141). -/
def execHwCmdSeqStop (_lo : BitVec 2) (_rsv : BitVec 29) (s : State) : Out := .next (setCmdRej false (seqStop s))

/-- HW.CMD.SEQ_START: the CMD write whose only command is SEQ_START (R143, R141). -/
def execHwCmdSeqStart (_lo : BitVec 2) (_rsv : BitVec 29) (s : State) : Out :=
  .next (if s.startAccepted then setCmdRej false (seqStart s) else setCmdRej true s)

/-- HW.CMD.CAL_LOAD: the CMD write whose only command is CAL_LOAD (R144, R141). -/
def execHwCmdCalLoad (_lo : BitVec 2) (_rsv : BitVec 29) (s : State) : Out :=
  .next (if s.loadAccepted then setCmdRej false (calLoad s) else setCmdRej true s)

/-- HostWrite CFG (R263). Writing SLV_EN = 0 stops the responder. -/
def cfgWrite (data : Word) (s : State) : State :=
  let s1 :=
    { s with
      cfg :=
        { s.cfg with
          slvEn := data.getLsbD 0
          rxIe := data.getLsbD 1
          waitTicks := data.extractLsb' 8 8
          slvAddr := data.extractLsb' 16 7 } }
  if data.getLsbD 0 then s1 else s1.endTransfer

/-- HW.CFG (R263). -/
def execHwCfg (_lo : BitVec 2) (data : Word) (s : State) : Out := .next (cfgWrite data s)

/-- A write to a read-only register or to an unmapped offset: no state changes (R264, R265). -/
def ignoredWrite (_data : Word) (s : State) : Out := .next s

/-- HW.STATUS (R264). -/
def execHwStatus (_lo : BitVec 2) (data : Word) (s : State) : Out := ignoredWrite data s

/-- HW.PRESSURE (R264). -/
def execHwPressure (_lo : BitVec 2) (data : Word) (s : State) : Out := ignoredWrite data s

/-- HW.TEMPERATURE (R264). -/
def execHwTemperature (_lo : BitVec 2) (data : Word) (s : State) : Out := ignoredWrite data s

/-- HW.RAW_D1 (R264). -/
def execHwRawD1 (_lo : BitVec 2) (data : Word) (s : State) : Out := ignoredWrite data s

/-- HW.RAW_D2 (R264). -/
def execHwRawD2 (_lo : BitVec 2) (data : Word) (s : State) : Out := ignoredWrite data s

/-- HW.TX_HOLD: publish a word (R266). -/
def execHwTxHold (_lo : BitVec 2) (data : Word) (s : State) : Out :=
  .next { s with slv := { s.slv with txHold := data } }

/-- HW.RX_DATA: RX_READY is not cleared (R264). -/
def execHwRxData (_lo : BitVec 2) (data : Word) (s : State) : Out := ignoredWrite data s

/-- HW.CAL0: the calibration set cannot be altered (R264). -/
def execHwCal0 (_lo : BitVec 2) (data : Word) (s : State) : Out := ignoredWrite data s

/-- HW.CAL1: the calibration set cannot be altered (R264). -/
def execHwCal1 (_lo : BitVec 2) (data : Word) (s : State) : Out := ignoredWrite data s

/-- HW.CAL2: the calibration set cannot be altered (R264). -/
def execHwCal2 (_lo : BitVec 2) (data : Word) (s : State) : Out := ignoredWrite data s

/-- HW.CAL3: the calibration set cannot be altered (R264). -/
def execHwCal3 (_lo : BitVec 2) (data : Word) (s : State) : Out := ignoredWrite data s

/-- HW.CAL4: the calibration set cannot be altered (R264). -/
def execHwCal4 (_lo : BitVec 2) (data : Word) (s : State) : Out := ignoredWrite data s

/-- HW.CAL5: the calibration set cannot be altered (R264). -/
def execHwCal5 (_lo : BitVec 2) (data : Word) (s : State) : Out := ignoredWrite data s

/-- HW.CAL6: the calibration set cannot be altered (R264). -/
def execHwCal6 (_lo : BitVec 2) (data : Word) (s : State) : Out := ignoredWrite data s

/-- HW.UNMAPPED.40 (R265). -/
def execHwUnmapped40 (_off : BitVec 6) (data : Word) (s : State) : Out := ignoredWrite data s

/-- HW.UNMAPPED.80 (R265). -/
def execHwUnmapped80 (_off : BitVec 7) (data : Word) (s : State) : Out := ignoredWrite data s

end Sys2Proof.Machine
end

