-- ==== Sys2Proof/Machine/Reset.lean ====
section
/-! DEFINITION. The reset event (70_reset_and_hazards.md R340, R341). -/

namespace Sys2Proof.Machine

/-- Every state element takes its reset value; the instance's parameters and the outside world stay, and nothing is sent
to the sensor or to the bus (R340, R341). -/
def resetCore (s : State) : State where
  seq := { state := .idle, waitCnt := 0, rawD1 := 0#24, rawD2 := 0#24, lastFailState := 0#4 }
  ldr := { cal := ⟨0#16, 0#16, 0#16, 0#16, 0#16, 0#16, 0#16⟩, calValid := false, calBusy := false, calErr := false,
           phase := .lIdle, cnt := 0#8 }
  reading := { pressure := 0#32, temperature := 0#32, valid := false }
  slv := { dir := .none, bcnt := 0#3, rxbuf := 0#32, txbuf := 0#32, rxData := 0#32, rxReady := false, txHold := 0#32 }
  cfg := { slvEn := false, rxIe := false, waitTicks := s.params.waitTicksReset, slvAddr := s.params.slaveAddrReset,
           cmdRej := false }
  params := s.params
  env := s.env
  ports := s.ports

/-- RESET (R340). -/
def execReset (s : State) : Out := .next (resetCore s)

end Sys2Proof.Machine
end

