-- ==== Sys2Proof/Machine/Compensation.lean ====
section
/-! DEFINITION. The compensation engine (41_compensation.md): a pure function on mathematical integers (R13, R210). Every
operand is the non-negative integer its bits spell (R200). -/

namespace Sys2Proof.Machine

open Config

/-- `div(a, 2^k)` (R208). -/
def engineDiv (mode : DivMode) (a : Int) (k : Nat) : Int :=
  match mode with
  | .trunc => Int.tdiv a (2 ^ k)
  | .floor => Int.fdiv a (2 ^ k)

/-- `sat32(x)` (R13, R203). -/
def sat32 (x : Int) : Int := max (-(2 ^ 31)) (min (2 ^ 31 - 1) x)

/-- dT (R201). -/
def compDT (c : Seven Half) (d2 : Code24) : Int := (d2.toNat : Int) - (c.c5.toNat : Int) * 256

/-- TEMP (R202). -/
def compTemp (mode : DivMode) (c : Seven Half) (d2 : Code24) : Int :=
  2000 + engineDiv mode (compDT c d2 * c.c6.toNat) 23

/-- OFF (R205). -/
def compOff (mode : DivMode) (c : Seven Half) (d2 : Code24) : Int :=
  c.c2.toNat * 2 ^ 17 + engineDiv mode (c.c4.toNat * compDT c d2) 6

/-- SENS (R206). -/
def compSens (mode : DivMode) (c : Seven Half) (d2 : Code24) : Int :=
  c.c1.toNat * 2 ^ 16 + engineDiv mode (c.c3.toNat * compDT c d2) 7

/-- P (R207). -/
def compP (mode : DivMode) (c : Seven Half) (d1 d2 : Code24) : Int :=
  engineDiv mode (engineDiv mode (d1.toNat * compSens mode c d2) 21 - compOff mode c d2) 15

/-- Compensate(C, D1, D2) = (pressure, temperature) (R200, R203). -/
def compensate (mode : DivMode) (c : Seven Half) (d1 d2 : Code24) : Int × Int :=
  (sat32 (compP mode c d1 d2), sat32 (compTemp mode c d2))

/-- `u32(x)`: `x mod 2^32` as a 32-bit pattern (R13). -/
def u32 (x : Int) : Word := BitVec.ofInt 32 x

end Sys2Proof.Machine
end

