-- ==== Sys2Proof/Machine/Loader.lean ====
section
/-! DEFINITION. The calibration loader: the first half of every tick, one rule per LDR_PHASE (40_sequencer.md R170 to
R174). A rule is a function from state to state; the rows TICK.L_… run it through `byRow`. -/

namespace Sys2Proof.Machine

/-- L_IDLE: nothing happens (R170). -/
def loaderIdle (s : State) : State := s

/-- L_RESET: send the sensor reset command (R171). -/
def loaderReset (s : State) : State :=
  match sensorWrite s.params.cmdReset s with
  | (none, s') => s'.loadFailed
  | (some _, s') => { s' with ldr := { s'.ldr with cnt := s'.params.resetWaitTicks, phase := .lWait } }

/-- L_WAIT: count down, then go to L_PROM (R172). -/
def loaderWait (s : State) : State :=
  let c := satdec8 s.ldr.cnt
  { s with ldr := { s.ldr with cnt := c, phase := if c = 0#8 then .lProm else s.ldr.phase } }

/-- One PROM word: `SensorWrite(cmd)`, then `SensorRead(2)`, assembled in the configured order (R173, R174). -/
def readPromWord (cmd : Byte) (s : State) : Drawn Half :=
  (sensorWrite cmd s).andThen fun _ s1 =>
  (sensorRead 2 s1).andThen fun q s2 => (some (promWord s2.params.promWordOrder q), s2)

/-- The seven PROM words, in the order 0 to 6; the first `fail` ends the calls (R174). -/
def readProm (s : State) : Drawn (Seven Half) :=
  let cmd := s.params.cmdProm
  (readPromWord cmd.c0 s).andThen fun w0 s0 =>
  (readPromWord cmd.c1 s0).andThen fun w1 s1 =>
  (readPromWord cmd.c2 s1).andThen fun w2 s2 =>
  (readPromWord cmd.c3 s2).andThen fun w3 s3 =>
  (readPromWord cmd.c4 s3).andThen fun w4 s4 =>
  (readPromWord cmd.c5 s4).andThen fun w5 s5 =>
  (readPromWord cmd.c6 s5).andThen fun w6 s6 => (some ⟨w0, w1, w2, w3, w4, w5, w6⟩, s6)

/-- L_PROM: the seven words are committed together or not at all (R174). -/
def loaderProm (s : State) : State :=
  match readProm s with
  | (none, s') => s'.loadFailed
  | (some w, s') => { s' with ldr := { s'.ldr with cal := w, calValid := true, calBusy := false, phase := .lIdle } }

/-- `loader_step()`: the rule LDR_PHASE selects (R145, R170). -/
def loaderStep (s : State) : State :=
  match s.ldr.phase with
  | .lIdle => loaderIdle s
  | .lReset => loaderReset s
  | .lWait => loaderWait s
  | .lProm => loaderProm s

/-- TICK.L_IDLE (R170). -/
def execTickLIdle (s : State) : Out :=
  byRow (s.ldr.phase == .lIdle) (.next (loaderIdle s)) (.next (loaderStep s))

/-- TICK.L_RESET (R171). -/
def execTickLReset (s : State) : Out :=
  byRow (s.ldr.phase == .lReset) (.next (loaderReset s)) (.next (loaderStep s))

/-- TICK.L_WAIT (R172). -/
def execTickLWait (s : State) : Out :=
  byRow (s.ldr.phase == .lWait) (.next (loaderWait s)) (.next (loaderStep s))

/-- TICK.L_PROM (R174). -/
def execTickLProm (s : State) : Out :=
  byRow (s.ldr.phase == .lProm) (.next (loaderProm s)) (.next (loaderStep s))

end Sys2Proof.Machine
end

