-- ==== Sys2Proof/Machine/Sequencer.lean ====
section
/-! DEFINITION. The conversion sequencer: the second half of every tick, one rule per SEQ_STATE (40_sequencer.md R150 to
R158), and the tick itself (R145). -/

namespace Sys2Proof.Machine

/-- Idle: nothing changes (R150). -/
def seqIdle (s : State) : State := s

/-- A Start state: send the conversion command, load the settling wait and go to `wait`; a failure raises
SeqError(`code`) (R151, R154). -/
def startConversion (cmd : Byte) (code : BitVec 4) (wait : SeqState) (s : State) : State :=
  match sensorWrite cmd s with
  | (none, s') => s'.seqError code
  | (some _, s') => { s' with seq := { s'.seq with waitCnt := s'.settlingCount, state := wait } }

/-- A Wait state: decrement, then test the new value (R152, R155). -/
def waitConversion (read : SeqState) (s : State) : State :=
  let c := satdec s.seq.waitCnt
  { s with seq := { s.seq with waitCnt := c, state := if c = 0 then read else s.seq.state } }

/-- `SensorWrite(CMD_ADC_READ)`, then `SensorRead(3)`: a 24-bit code, big-endian (R76, R153, R156). -/
def readAdc (s : State) : Drawn Code24 :=
  (sensorWrite s.params.cmdAdcRead s).andThen fun _ s1 =>
  (sensorRead 3 s1).andThen fun q s2 => (some (adcCode q), s2)

/-- StartPressureConv (R151). -/
def seqStartP (s : State) : State := startConversion s.params.cmdConvD1 1#4 .waitP s

/-- WaitPressureConv (R152). -/
def seqWaitP (s : State) : State := waitConversion .readP s

/-- ReadPressureAdc (R153). -/
def seqReadP (s : State) : State :=
  match readAdc s with
  | (none, s') => s'.seqError 3#4
  | (some d, s') => { s' with seq := { s'.seq with rawD1 := d, state := .startT } }

/-- StartTempConv (R154). -/
def seqStartT (s : State) : State := startConversion s.params.cmdConvD2 4#4 .waitT s

/-- WaitTempConv (R155). -/
def seqWaitT (s : State) : State := waitConversion .readT s

/-- ReadTempAdc (R156). -/
def seqReadT (s : State) : State :=
  match readAdc s with
  | (none, s') => s'.seqError 6#4
  | (some d, s') => { s' with seq := { s'.seq with rawD2 := d, state := .calc } }

/-- Calculate: pressure, temperature and READING_VALID change together (R157). -/
def seqCalc (s : State) : State :=
  if s.ldr.calValid then
    let r := compensate s.params.divMode s.ldr.cal s.seq.rawD1 s.seq.rawD2
    { s with
      reading := { pressure := u32 r.1, temperature := u32 r.2, valid := true }
      seq := { s.seq with state := .startP } }
  else s.seqError 7#4

/-- Error: READING_VALID <- 0; count in the WAIT_CNT_WIDTH bits of the counter, and retry once the count passes ERR_RETRY_LIMIT (R158). -/
def seqErrorTick (s : State) : State :=
  let s1 := { s with reading := { s.reading with valid := false } }
  let c := satinc s.params.waitCntWidth s.seq.waitCnt
  if s.params.errRetryLimit < c then s1.seqRetry else { s1 with seq := { s1.seq with waitCnt := c } }

/-- `sequencer_step()`: the rule SEQ_STATE selects (R145); a never-held code selects none (R22). -/
def sequencerStep (s : State) : Out :=
  match s.seq.state with
  | .idle => .next (seqIdle s)
  | .startP => .next (seqStartP s)
  | .waitP => .next (seqWaitP s)
  | .readP => .next (seqReadP s)
  | .startT => .next (seqStartT s)
  | .waitT => .next (seqWaitT s)
  | .readT => .next (seqReadT s)
  | .calc => .next (seqCalc s)
  | .error => .next (seqErrorTick s)
  | .reserved _ => .refused .neverHeldState

/-- TICK: the loader step, then the sequencer step on the state it left, one atomic event (R145). -/
def execTick (s : State) : Out := sequencerStep (loaderStep s)

/-- TICK.IDLE (R150). -/
def execTickIdle (s : State) : Out := byRow (s.seq.state == .idle) (.next (seqIdle s)) (sequencerStep s)

/-- TICK.START_P (R151). -/
def execTickStartP (s : State) : Out := byRow (s.seq.state == .startP) (.next (seqStartP s)) (sequencerStep s)

/-- TICK.WAIT_P (R152). -/
def execTickWaitP (s : State) : Out := byRow (s.seq.state == .waitP) (.next (seqWaitP s)) (sequencerStep s)

/-- TICK.READ_P (R153). -/
def execTickReadP (s : State) : Out := byRow (s.seq.state == .readP) (.next (seqReadP s)) (sequencerStep s)

/-- TICK.START_T (R154). -/
def execTickStartT (s : State) : Out := byRow (s.seq.state == .startT) (.next (seqStartT s)) (sequencerStep s)

/-- TICK.WAIT_T (R155). -/
def execTickWaitT (s : State) : Out := byRow (s.seq.state == .waitT) (.next (seqWaitT s)) (sequencerStep s)

/-- TICK.READ_T (R156). -/
def execTickReadT (s : State) : Out := byRow (s.seq.state == .readT) (.next (seqReadT s)) (sequencerStep s)

/-- TICK.CALC (R157). -/
def execTickCalc (s : State) : Out := byRow (s.seq.state == .calc) (.next (seqCalc s)) (sequencerStep s)

/-- TICK.ERROR (R158). -/
def execTickError (s : State) : Out := byRow (s.seq.state == .error) (.next (seqErrorTick s)) (sequencerStep s)

end Sys2Proof.Machine
end

