-- ==== Sys2Proof/Machine/Dispatch.lean ====
section
/-! DEFINITION. exec: what each row of the opcode table does, one direct call of its meaning per constructor. -/

namespace Sys2Proof.Machine

def exec (i : Instr) (s : State) : Host.Outcome State Fault Refusal :=
  match i with
  | .hwCmd lo data => Sys2Proof.Machine.execHwCmd lo data s
  | .hwCmdSeqStop lo rsv => Sys2Proof.Machine.execHwCmdSeqStop lo rsv s
  | .hwCmdSeqStart lo rsv => Sys2Proof.Machine.execHwCmdSeqStart lo rsv s
  | .hwCmdCalLoad lo rsv => Sys2Proof.Machine.execHwCmdCalLoad lo rsv s
  | .hwCfg lo data => Sys2Proof.Machine.execHwCfg lo data s
  | .hwStatus lo data => Sys2Proof.Machine.execHwStatus lo data s
  | .hwPressure lo data => Sys2Proof.Machine.execHwPressure lo data s
  | .hwTemperature lo data => Sys2Proof.Machine.execHwTemperature lo data s
  | .hwRawD1 lo data => Sys2Proof.Machine.execHwRawD1 lo data s
  | .hwRawD2 lo data => Sys2Proof.Machine.execHwRawD2 lo data s
  | .hwTxHold lo data => Sys2Proof.Machine.execHwTxHold lo data s
  | .hwRxData lo data => Sys2Proof.Machine.execHwRxData lo data s
  | .hwCal0 lo data => Sys2Proof.Machine.execHwCal0 lo data s
  | .hwCal1 lo data => Sys2Proof.Machine.execHwCal1 lo data s
  | .hwCal2 lo data => Sys2Proof.Machine.execHwCal2 lo data s
  | .hwCal3 lo data => Sys2Proof.Machine.execHwCal3 lo data s
  | .hwCal4 lo data => Sys2Proof.Machine.execHwCal4 lo data s
  | .hwCal5 lo data => Sys2Proof.Machine.execHwCal5 lo data s
  | .hwCal6 lo data => Sys2Proof.Machine.execHwCal6 lo data s
  | .hwUnmapped40 off data => Sys2Proof.Machine.execHwUnmapped40 off data s
  | .hwUnmapped80 off data => Sys2Proof.Machine.execHwUnmapped80 off data s
  | .hrCmd lo => Sys2Proof.Machine.execHrCmd lo s
  | .hrCfg lo => Sys2Proof.Machine.execHrCfg lo s
  | .hrStatus lo => Sys2Proof.Machine.execHrStatus lo s
  | .hrPressure lo => Sys2Proof.Machine.execHrPressure lo s
  | .hrTemperature lo => Sys2Proof.Machine.execHrTemperature lo s
  | .hrRawD1 lo => Sys2Proof.Machine.execHrRawD1 lo s
  | .hrRawD2 lo => Sys2Proof.Machine.execHrRawD2 lo s
  | .hrTxHold lo => Sys2Proof.Machine.execHrTxHold lo s
  | .hrRxData lo => Sys2Proof.Machine.execHrRxData lo s
  | .hrCal0 lo => Sys2Proof.Machine.execHrCal0 lo s
  | .hrCal1 lo => Sys2Proof.Machine.execHrCal1 lo s
  | .hrCal2 lo => Sys2Proof.Machine.execHrCal2 lo s
  | .hrCal3 lo => Sys2Proof.Machine.execHrCal3 lo s
  | .hrCal4 lo => Sys2Proof.Machine.execHrCal4 lo s
  | .hrCal5 lo => Sys2Proof.Machine.execHrCal5 lo s
  | .hrCal6 lo => Sys2Proof.Machine.execHrCal6 lo s
  | .hrUnmapped40 off => Sys2Proof.Machine.execHrUnmapped40 off s
  | .hrUnmapped80 off => Sys2Proof.Machine.execHrUnmapped80 off s
  | .tick => Sys2Proof.Machine.execTick s
  | .tickLIdle => Sys2Proof.Machine.execTickLIdle s
  | .tickLReset => Sys2Proof.Machine.execTickLReset s
  | .tickLWait => Sys2Proof.Machine.execTickLWait s
  | .tickLProm => Sys2Proof.Machine.execTickLProm s
  | .tickIdle => Sys2Proof.Machine.execTickIdle s
  | .tickStartP => Sys2Proof.Machine.execTickStartP s
  | .tickWaitP => Sys2Proof.Machine.execTickWaitP s
  | .tickReadP => Sys2Proof.Machine.execTickReadP s
  | .tickStartT => Sys2Proof.Machine.execTickStartT s
  | .tickWaitT => Sys2Proof.Machine.execTickWaitT s
  | .tickReadT => Sys2Proof.Machine.execTickReadT s
  | .tickCalc => Sys2Proof.Machine.execTickCalc s
  | .tickError => Sys2Proof.Machine.execTickError s
  | .busAddrWMatch a7 => Sys2Proof.Machine.execBusAddrWMatch a7 s
  | .busAddrRMatch a7 => Sys2Proof.Machine.execBusAddrRMatch a7 s
  | .busAddrNomatch a7 rw => Sys2Proof.Machine.execBusAddrNomatch a7 rw s
  | .busWbRx b => Sys2Proof.Machine.execBusWbRx b s
  | .busWbRxLast b => Sys2Proof.Machine.execBusWbRxLast b s
  | .busWbNone b => Sys2Proof.Machine.execBusWbNone b s
  | .busWbTx b => Sys2Proof.Machine.execBusWbTx b s
  | .busRbTx => Sys2Proof.Machine.execBusRbTx s
  | .busRbTxLast => Sys2Proof.Machine.execBusRbTxLast s
  | .busRbNone => Sys2Proof.Machine.execBusRbNone s
  | .busRbRx => Sys2Proof.Machine.execBusRbRx s
  | .busStop => Sys2Proof.Machine.execBusStop s
  | .busBerr => Sys2Proof.Machine.execBusBerr s
  | .reset => Sys2Proof.Machine.execReset s

end Sys2Proof.Machine
end

