-- ==== Sys2Proof/Machine/RowSelect.lean ====
section
/-! DEFINITION. The conditions of the opcode table and the row a state selects (30_encoding.md R107). -/

namespace Sys2Proof.Machine

/-- The "condition" of the instruction's row in spec/opcode_table.json; a row without one holds in every state. -/
def rowCondition (i : Instr) (s : State) : Bool :=
  match i with
  | .tickLIdle => s.ldr.phase == .lIdle
  | .tickLReset => s.ldr.phase == .lReset
  | .tickLWait => s.ldr.phase == .lWait
  | .tickLProm => s.ldr.phase == .lProm
  | .tickIdle => s.seq.state == .idle
  | .tickStartP => s.seq.state == .startP
  | .tickWaitP => s.seq.state == .waitP
  | .tickReadP => s.seq.state == .readP
  | .tickStartT => s.seq.state == .startT
  | .tickWaitT => s.seq.state == .waitT
  | .tickReadT => s.seq.state == .readT
  | .tickCalc => s.seq.state == .calc
  | .tickError => s.seq.state == .error
  | .busAddrWMatch a7 | .busAddrRMatch a7 => s.addrMatch a7
  | .busAddrNomatch a7 _ => !s.addrMatch a7
  | .busWbRx _ => s.slv.dir == .receiving && decide (s.slv.bcnt.toNat < 3)
  | .busWbRxLast _ => s.slv.dir == .receiving && s.slv.bcnt == 3#3
  | .busWbNone _ => s.slv.dir == .none
  | .busWbTx _ => s.slv.dir == .transmitting
  | .busRbTx => s.slv.dir == .transmitting && decide (s.slv.bcnt.toNat < 3)
  | .busRbTxLast => s.slv.dir == .transmitting && s.slv.bcnt == 3#3
  | .busRbNone => s.slv.dir == .none
  | .busRbRx => s.slv.dir == .receiving
  | _ => true

/-- The row the state selects among those that share a bus event's word (R107): the ADDR event by the match and RW, WB and
RB by SLV_DIR and BCNT. A tick is the row TICK, whose meaning selects its own two rules. -/
def selectRow (i : Instr) (s : State) : Instr :=
  match i with
  | .busAddrNomatch a7 rw =>
    if s.addrMatch a7 then (if rw then .busAddrRMatch a7 else .busAddrWMatch a7) else .busAddrNomatch a7 rw
  | .busWbNone b =>
    match s.slv.dir with
    | .receiving => if s.slv.bcnt = 3#3 then .busWbRxLast b else .busWbRx b
    | .transmitting => .busWbTx b
    | _ => .busWbNone b
  | .busRbNone =>
    match s.slv.dir with
    | .receiving => .busRbRx
    | .transmitting => if s.slv.bcnt = 3#3 then .busRbTxLast else .busRbTx
    | _ => .busRbNone
  | i => i

end Sys2Proof.Machine
end

