-- ==== Sys2Proof/Machine/Step.lean ====
section
/-! DEFINITION. One step: the next event, of whatever agent, is taken and executed atomically (20_memory.md R79, R83). -/

namespace Sys2Proof.Machine

/-- A state that holds a never-held code is refused (R109). With no event ready the core keeps its state (R359). A reserved
word is refused by name (R110). Any other word is one event: its decoded row, as the state selects it, is executed. -/
def step (s : State) : Host.Outcome State Fault Refusal :=
  if s.isHeld then
    match s.env.events with
    | [] => .next s
    | op :: rest =>
      match decode op with
      | .error e => .refused (.reservedWord e)
      | .ok i => exec (selectRow i s) (s.takeEvent rest)
  else .refused .neverHeldState

/-- `s` with the operation word of `nbits` bits `w` as its next event. A number with a bit above `op[43]` spells no
operation word; the reserved word 0 stands for it, which `step` refuses, as `decodeTableWord` does. -/
def State.withFetchWord (s : State) (nbits w : Nat) : State :=
  { s with env := { s.env with events := (opWordOf nbits w).getD 0#44 :: s.env.events } }

end Sys2Proof.Machine
end

