-- ==== Sys2Proof/Machine/HostProcedure.lean ====
section
/-! DEFINITION. The host reference procedure (43_host_interface.md R285 to R288): what the source's Coordinator does with
the core. It is host software and no part of the core (R8 (e)), so it stands beside the machine and not in `step`: from the
values of three host reads it gives the new reading counter and the word the host then writes to TX_HOLD. The other agents'
events may fall between those accesses (R85). -/

namespace Sys2Proof.Machine

open Config

/-- The clamp of the pressure: ±5000.00 mbar in units of 0.01 mbar (R287). -/
def clampPressure (p : Int) : Int := max (-500000) (min 500000 p)

/-- The clamp of the temperature: −500.00 °C to 1000.00 °C in units of 0.01 °C (R287). -/
def clampTemperature (t : Int) : Int := max (-50000) (min 100000 t)

/-- `publish(pc)` (R288). -/
def publishWord (mode : NegPublish) (pc : Int) : Word :=
  match mode with
  | .twosComplement => BitVec.ofInt 32 pc
  | .clampZero => BitVec.ofInt 32 (max 0 pc)

/-- What one invocation of the procedure leaves: the reading counter, which is host state (R287), and, if the reading was
valid, the two clamped values and the word written to TX_HOLD. -/
structure Invocation where
  count : Nat
  pressure : Option Int
  temperature : Option Int
  written : Option Word
  deriving DecidableEq, Repr

/-- One invocation, from the values the host read from STATUS, PRESSURE and TEMPERATURE (R286, R287). -/
def coordinator (p : Params) (count : Nat) (status pressure temperature : Word) : Invocation :=
  if status.getLsbD 4 then
    let pc := clampPressure pressure.toInt
    { count := satinc p.readCountWidth count
      pressure := some pc
      temperature := some (clampTemperature temperature.toInt)
      written := some (publishWord p.negPublish pc) }
  else { count := count, pressure := none, temperature := none, written := none }

end Sys2Proof.Machine
end

