-- ==== Sys2Proof/Safety.lean ====
section
/-! DEFINITION. The terms the claims use: the invariants of reachable states the spec lists (10_state.md R28, R33, R49,
R50), the sensor transport's answers by number, and what a run of steps gives out. -/

namespace Sys2Proof.Machine

open Config

/-- The invariants of every reachable state. -/
structure CoreInv (s : State) : Prop where
  /-- SEQ_STATE is one of the codes 0 to 8 (R22) -/
  seqHeld : s.seq.state.isHeld = true
  /-- SLV_DIR is None, Receiving or Transmitting (R32) -/
  dirHeld : s.slv.dir ≠ .reserved
  /-- "SEQ_STATE ≠ IDLE implies CAL_VALID = 1" (R50) -/
  runningCalibrated : s.seq.state ≠ .idle → s.ldr.calValid = true
  /-- "CAL_BUSY = 1 exactly when LDR_PHASE ≠ 0" (R28) -/
  busyPhase : s.ldr.calBusy = true ↔ s.ldr.phase ≠ .lIdle
  /-- "CAL_BUSY = 1 implies SEQ_STATE = IDLE and CAL_VALID = 0" (R50) -/
  busyIdle : s.ldr.calBusy = true → s.seq.state = .idle ∧ s.ldr.calValid = false
  /-- "WAIT_CNT = 0 whenever SEQ_STATE ∈ {IDLE, READ_P, START_T, READ_T, CALC, START_P}" (R50) -/
  waitZero : s.seq.state ∈ [SeqState.idle, .readP, .startT, .readT, .calc, .startP] → s.seq.waitCnt = 0
  /-- WAIT_CNT has WAIT_CNT_WIDTH bits (R10, R23) -/
  waitFits : s.seq.waitCnt < 2 ^ s.params.waitCntWidth
  /-- "WAIT_CNT ≤ ERR_RETRY_LIMIT whenever SEQ_STATE = ERROR between events" (R50) -/
  errorCount : s.seq.state = .error → s.seq.waitCnt ≤ s.params.errRetryLimit
  /-- READING_VALID "is cleared on entry to Error" (R49 (3)) -/
  errorInvalid : s.seq.state = .error → s.reading.valid = false
  /-- LAST_FAIL_STATE holds 0, 1, 3, 4, 6 or 7 (R25) -/
  failCode : s.seq.lastFailState ∈ [0#4, 1#4, 3#4, 4#4, 6#4, 7#4]
  /-- "It is 0 whenever SLV_DIR = None" (R33) -/
  restCount : s.slv.dir = .none → s.slv.bcnt = 0#3
  /-- "and lies in 0..3 whenever SLV_DIR ≠ None" (R33) -/
  transferCount : s.slv.dir ≠ .none → s.slv.bcnt.toNat ≤ 3
  /-- a responder that is not started is in direction None (R222) -/
  stoppedAtRest : s.cfg.slvEn = false → s.slv.dir = .none

/-- The sensor transport's n-th answer from here on (n = 0 the next): a ready one, else a free value. -/
def Env.answerAt (e : Env) (n : Nat) : SensorAnswer :=
  match e.answers[n]? with
  | some a => a
  | none => freeSensorAnswer (e.draws + (n - e.answers.length))

/-- The outside world after `n` answers. -/
def Env.afterAnswers (e : Env) (n : Nat) : Env :=
  { e with answers := e.answers.drop n, draws := e.draws + (n - e.answers.length) }

/-- The instruction is one half of a tick: a loader row or a sequencer row (R145, R170). -/
abbrev isTickHalf (i : Instr) : Bool :=
  match i with
  | .tickLIdle | .tickLReset | .tickLWait | .tickLProm => true
  | .tickIdle | .tickStartP | .tickWaitP | .tickReadP | .tickStartT | .tickWaitT | .tickReadT | .tickCalc
  | .tickError => true
  | _ => false

/-- `n` steps, with what each gave out (R48), if every one of them answers a next state. -/
def traceRun (n : Nat) (s : State) : Option (List Ports × State) :=
  match n with
  | 0 => some ([], s)
  | k + 1 =>
    match step s with
    | .next s' =>
      match traceRun k s' with
      | some (ps, t) => some (s'.ports :: ps, t)
      | none => none
    | _ => none

end Sys2Proof.Machine
end

