-- ==== Sys2Proof/Certificates/Slice0/Obligations.lean ====
section
/-! DEFINITION. The statements for the provers, from the numbered rules of spec/. `next` states are written field by field
over the state before, so each says what changes and that all else is as before. The model's own `env` and `ports` are
written as well: which answers of the sensor transport are used up, and what is given out. -/

open Sys2Proof Sys2Proof.Machine Sys2Proof.Config

/-! ### Encoding and the step -/

/-- R114 (the spec's inference): the example spellings, each decoding to the event it spells; ADDR, WB and RB words to the row
of a responder at rest (log entry 8). -/
def Obligations.ExampleWordsDecode : Prop :=
  decode 0x10000000001#44 = .ok (.hwCmdSeqStart 0#2 0#29) ∧
  decode 0x10400760103#44 = .ok (.hwCfg 0#2 0x00760103#32) ∧
  decode 0x11C0001ADB0#44 = .ok (.hwTxHold 0#2 0x0001ADB0#32) ∧
  decode 0x20800000000#44 = .ok (.hrStatus 0#2) ∧
  decode 0x22000000000#44 = .ok (.hrRxData 0#2) ∧
  decode 0x30000000000#44 = .ok .tick ∧
  decode 0x400000000EC#44 = .ok (.busAddrNomatch 0x76#7 false) ∧
  decode 0x400000000ED#44 = .ok (.busAddrNomatch 0x76#7 true) ∧
  decode 0x41000000001#44 = .ok (.busWbNone 0x01#8) ∧
  decode 0x42000000000#44 = .ok .busRbNone ∧
  decode 0x43000000000#44 = .ok .busStop ∧
  decode 0x44000000000#44 = .ok .busBerr ∧
  decode 0x50000000000#44 = .ok .reset

/-- R101 to R107: every well-formed instruction's word decodes to that instruction, with every operand; a row that shares
its word with others decodes to the one row of them the decoder answers (the model's choice, log entry 8). -/
def Obligations.EncodedInstructionDecodes : Prop :=
  ∀ i : Instr, i.wellFormed = true → decode (encode i) = .ok (canonical i)

/-- R101 to R107, the other way: whatever word decodes, its instruction is well formed and has exactly that word, so no bit
of a word is dropped or read as another. -/
def Obligations.DecodedWordIsReencoded : Prop :=
  ∀ (op : OpWord) (i : Instr), decode op = .ok i → i.wellFormed = true ∧ encode i = op

/-- R110: exactly the reserved words are refused by the decoder, and the machine gives such a word no step. -/
def Obligations.ReservedWordsRefused : Prop :=
  ∀ op : OpWord,
    ((∃ e, decode op = .error e) ↔
      (op.extractLsb' 40 4 = 0#4 ∨ 6 ≤ (op.extractLsb' 40 4).toNat ∨
       (op.extractLsb' 40 4 = 2#4 ∧ op.extractLsb' 0 32 ≠ 0#32) ∨
       ((op.extractLsb' 40 4 = 3#4 ∨ op.extractLsb' 40 4 = 5#4) ∧ op.extractLsb' 0 40 ≠ 0#40) ∨
       (op.extractLsb' 40 4 = 4#4 ∧
         (5 ≤ (op.extractLsb' 36 4).toNat ∨ op.extractLsb' 8 28 ≠ 0#28 ∨
          (2 ≤ (op.extractLsb' 36 4).toNat ∧ op.extractLsb' 0 8 ≠ 0#8))))) ∧
    ∀ (s : State) (rest : List OpWord) (e : DecodeError),
      s.isHeld = true → s.env.events = op :: rest → decode op = .error e →
      step s = .refused (.reservedWord e)

/-- R107, R79: a step takes the next word, and executes the row it decodes to, as the state selects it. With no event the
core keeps its state (the model's choice, log entry 3). -/
def Obligations.StepRunsTheDecodedRow : Prop :=
  (∀ (s : State) (op : OpWord) (rest : List OpWord) (i : Instr),
    s.isHeld = true → s.env.events = op :: rest → decode op = .ok i →
    step s = exec (selectRow i s) { s with env := { s.env with events := rest }, ports := {} }) ∧
  (∀ s : State, s.isHeld = true → s.env.events = [] → step s = .next s)

/-- R107: for a decoded event in a state the invariants allow, the row the state selects has the event's word, its condition
in the table holds, and executing it is executing the event. One decoded row per word is the model's choice (log entry 8). -/
def Obligations.SelectedRowIsTheRulesRow : Prop :=
  ∀ (op : OpWord) (i : Instr) (s : State), decode op = .ok i → CoreInv s →
    encode (selectRow i s) = op ∧ rowCondition (selectRow i s) s = true ∧ exec (selectRow i s) s = exec i s

/-- R107: what an event does depends on its operation word and the state alone: two rows with one word have one meaning. (The
halves of a tick stand apart: they are parts of the event TICK, R145.) The model's reading of R107: log entry 8. -/
def Obligations.OneWordOneMeaning : Prop :=
  ∀ (i j : Instr) (s : State), isTickHalf i = false → isTickHalf j = false → encode i = encode j →
    exec i s = exec j s

/-- R145: a tick is the loader row LDR_PHASE selects, then the sequencer row SEQ_STATE selects in the state that row left. -/
def Obligations.TickIsLoaderThenSequencer : Prop :=
  ∀ (i j : Instr) (s t : State),
    i ∈ [Instr.tickLIdle, .tickLReset, .tickLWait, .tickLProm] → rowCondition i s = true → exec i s = .next t →
    j ∈ [Instr.tickIdle, .tickStartP, .tickWaitP, .tickReadP, .tickStartT, .tickWaitT, .tickReadT, .tickCalc, .tickError] →
    rowCondition j t = true → exec .tick s = exec j t

/-- R109: a state that holds a never-held code is refused. -/
def Obligations.NeverHeldCodesRefused : Prop :=
  ∀ s : State,
    9 ≤ s.seq.state.code.toNat ∨ s.slv.dir.code = 3#2 ∨ 5 ≤ s.slv.bcnt.toNat → step s = .refused .neverHeldState

/-- No error stops the core (the spec's inference R307): from a state the invariants allow, every step answers a next state,
unless the next word is reserved (with no event it keeps the state, log entry 3). -/
def Obligations.OnlyReservedWordsStopTheCore : Prop :=
  ∀ s : State, CoreInv s →
    (∃ t, step s = .next t) ∨
    (∃ op rest e, s.env.events = op :: rest ∧ decode op = .error e ∧ step s = .refused (.reservedWord e))

/-- The invariants of R22, R23 (the width, R10), R25, R28, R32, R33, R49, R50 and R222 (the spec marks R50 and parts of the others its own
inference): every step keeps them. -/
def Obligations.StepKeepsInvariants : Prop :=
  ∀ s t : State, CoreInv s → step s = .next t → CoreInv t

/-- The invariants hold after reset, whatever the parameters. -/
def Obligations.ResetMeetsInvariants : Prop :=
  CoreInv State.reset ∧ ∀ p : Params, CoreInv (State.resetWith p)

/-! ### Host writes -/

/-- R140: a CMD write performs SEQ_STOP, SEQ_START and CAL_LOAD in this order, each on the state the one before it
left; CMD_REJ tells exactly whether a command bit was refused; nothing else changes. -/
def Obligations.CmdWriteEffect : Prop :=
  ∀ (lo : BitVec 2) (d : Word) (s : State),
    let stopped : SeqState := if d.getLsbD 1 = true then .idle else s.seq.state
    let starts : Prop := d.getLsbD 0 = true ∧ stopped = .idle ∧ s.ldr.calValid = true
    ∃ t, exec (.hwCmd lo d) s = .next t ∧
      (starts → t.seq = { s.seq with state := .startP, waitCnt := 0 }) ∧
      (¬ starts → d.getLsbD 1 = true → t.seq = { s.seq with state := .idle, waitCnt := 0 }) ∧
      (¬ starts → d.getLsbD 1 = false → t.seq = s.seq) ∧
      (let loads : Prop :=
          d.getLsbD 2 = true ∧ s.ldr.calValid = false ∧ s.ldr.calBusy = false ∧ t.seq.state = .idle
       (loads → t.ldr = { s.ldr with calBusy := true, calErr := false, phase := .lReset, cnt := 0#8 }) ∧
       (¬ loads → t.ldr = s.ldr) ∧
       (t.cfg.cmdRej = true ↔ (d.getLsbD 0 = true ∧ ¬ starts) ∨ (d.getLsbD 2 = true ∧ ¬ loads))) ∧
      t.cfg = { s.cfg with cmdRej := t.cfg.cmdRej } ∧ t.reading = s.reading ∧ t.slv = s.slv ∧ t.params = s.params ∧
      t.env = s.env ∧ t.ports = s.ports

/-- R142, R143, R144, with CMD_REJ by R140 and R141, a CMD write with one command bit (that each of these rows writes CMD_REJ
too is the model's reading, log entry 11): SEQ_STOP is always accepted, SEQ_START exactly from IDLE with
a loaded calibration, CAL_LOAD exactly with no set loaded, no load in progress and the sequencer IDLE. A refused command changes
CMD_REJ only. -/
def Obligations.SingleCommandEffects : Prop :=
  ∀ (lo : BitVec 2) (rsv : BitVec 29) (s : State),
    let rejected : Out := .next { s with cfg := { s.cfg with cmdRej := true } }
    exec (.hwCmdSeqStop lo rsv) s =
      .next { s with seq := { s.seq with state := .idle, waitCnt := 0 }, cfg := { s.cfg with cmdRej := false } } ∧
    (s.seq.state = .idle ∧ s.ldr.calValid = true →
      exec (.hwCmdSeqStart lo rsv) s =
        .next { s with seq := { s.seq with state := .startP, waitCnt := 0 }, cfg := { s.cfg with cmdRej := false } }) ∧
    (s.seq.state ≠ .idle ∨ s.ldr.calValid = false → exec (.hwCmdSeqStart lo rsv) s = rejected) ∧
    (s.ldr.calValid = false ∧ s.ldr.calBusy = false ∧ s.seq.state = .idle →
      exec (.hwCmdCalLoad lo rsv) s =
        .next { s with
          ldr := { s.ldr with calBusy := true, calErr := false, phase := .lReset, cnt := 0#8 }
          cfg := { s.cfg with cmdRej := false } }) ∧
    (s.ldr.calValid = true ∨ s.ldr.calBusy = true ∨ s.seq.state ≠ .idle → exec (.hwCmdCalLoad lo rsv) s = rejected)

/-- R141, in part: nothing but a CMD write and reset changes CMD_REJ. -/
def Obligations.CmdRejWrittenByCmdOnly : Prop :=
  ∀ (i : Instr) (s t : State), exec i s = .next t → t.cfg.cmdRej ≠ s.cfg.cmdRej →
    i = .reset ∨ (encode i).extractLsb' 34 10 = 0b0001000000#10

/-- R263: a CFG write stores every field from the written value, bit by bit; written with SLV_EN = 0 it also stops the
responder. -/
def Obligations.CfgWriteEffect : Prop :=
  ∀ (lo : BitVec 2) (d : Word) (s : State),
    ∃ t, exec (.hwCfg lo d) s = .next t ∧
      t.cfg.slvEn = d.getLsbD 0 ∧ t.cfg.rxIe = d.getLsbD 1 ∧
      (∀ k, k < 8 → t.cfg.waitTicks.getLsbD k = d.getLsbD (8 + k)) ∧
      (∀ k, k < 7 → t.cfg.slvAddr.getLsbD k = d.getLsbD (16 + k)) ∧
      t.cfg.cmdRej = s.cfg.cmdRej ∧
      (d.getLsbD 0 = true → t.slv = s.slv) ∧
      (d.getLsbD 0 = false → t.slv = { s.slv with dir := .none, bcnt := 0#3 }) ∧
      t.seq = s.seq ∧ t.ldr = s.ldr ∧ t.reading = s.reading ∧ t.params = s.params ∧ t.env = s.env ∧ t.ports = s.ports

/-- R264, R265: a write to a read-only register or to an unmapped offset changes nothing. -/
def Obligations.IgnoredWritesChangeNothing : Prop :=
  ∀ (lo : BitVec 2) (o6 : BitVec 6) (o7 : BitVec 7) (d : Word) (i : Instr) (s : State),
    i ∈ [Instr.hwStatus lo d, .hwPressure lo d, .hwTemperature lo d, .hwRawD1 lo d, .hwRawD2 lo d, .hwRxData lo d,
         .hwCal0 lo d, .hwCal1 lo d, .hwCal2 lo d, .hwCal3 lo d, .hwCal4 lo d, .hwCal5 lo d, .hwCal6 lo d,
         .hwUnmapped40 o6 d, .hwUnmapped80 o7 d] →
    exec i s = .next s

/-- R266: a TX_HOLD write publishes the word, and leaves a read in flight its bytes. -/
def Obligations.TxHoldWriteEffect : Prop :=
  ∀ (lo : BitVec 2) (d : Word) (s : State),
    exec (.hwTxHold lo d) s = .next { s with slv := { s.slv with txHold := d } }

/-! ### Host reads -/

/-- R270, R273, R274, R276 to R280: what these reads return; no other state changes. -/
def Obligations.HostReadValues : Prop :=
  ∀ (lo : BitVec 2) (o6 : BitVec 6) (o7 : BitVec 7) (i : Instr) (v : Word) (s : State),
    (i, v) ∈ [(Instr.hrCmd lo, 0#32), (.hrPressure lo, s.reading.pressure), (.hrTemperature lo, s.reading.temperature),
      (.hrRawD1 lo, s.seq.rawD1.zeroExtend 32), (.hrRawD2 lo, s.seq.rawD2.zeroExtend 32), (.hrTxHold lo, s.slv.txHold),
      (.hrCal0 lo, s.ldr.cal.c0.zeroExtend 32), (.hrCal1 lo, s.ldr.cal.c1.zeroExtend 32),
      (.hrCal2 lo, s.ldr.cal.c2.zeroExtend 32), (.hrCal3 lo, s.ldr.cal.c3.zeroExtend 32),
      (.hrCal4 lo, s.ldr.cal.c4.zeroExtend 32), (.hrCal5 lo, s.ldr.cal.c5.zeroExtend 32),
      (.hrCal6 lo, s.ldr.cal.c6.zeroExtend 32), (.hrUnmapped40 o6, 0#32), (.hrUnmapped80 o7, 0#32)] →
    exec i s = .next { s with ports := { s.ports with hostData := some v } }

/-- R272: STATUS shows each field at its place (of WAIT_CNT its low 8 bits), with 0 in the reserved bits, and reading it changes
nothing. -/
def Obligations.StatusReadFields : Prop :=
  ∀ (lo : BitVec 2) (s : State), ∃ v : Word,
    exec (.hrStatus lo) s = .next { s with ports := { s.ports with hostData := some v } } ∧
    v.extractLsb' 0 4 = s.seq.state.code ∧ v.getLsbD 4 = s.reading.valid ∧ v.getLsbD 5 = s.ldr.calValid ∧
    v.getLsbD 6 = s.ldr.calBusy ∧ v.getLsbD 7 = s.ldr.calErr ∧ v.extractLsb' 8 2 = s.slv.dir.code ∧
    v.getLsbD 10 = s.slv.rxReady ∧ v.getLsbD 11 = s.cfg.cmdRej ∧ v.extractLsb' 12 2 = s.ldr.phase.code ∧
    v.extractLsb' 14 2 = 0#2 ∧ v.extractLsb' 16 4 = s.seq.lastFailState ∧ v.extractLsb' 20 3 = s.slv.bcnt ∧
    v.getLsbD 23 = false ∧ (v.extractLsb' 24 8).toNat = s.seq.waitCnt % 256

/-- R271 with R263 and R46: CFG shows each field at its place, with 0 in the reserved bits; so reading CFG back after writing
it gives the written value without its reserved bits. -/
def Obligations.CfgReadFields : Prop :=
  ∀ (lo lo' : BitVec 2) (s : State),
    (∃ v : Word,
      exec (.hrCfg lo) s = .next { s with ports := { s.ports with hostData := some v } } ∧
      v.getLsbD 0 = s.cfg.slvEn ∧ v.getLsbD 1 = s.cfg.rxIe ∧ v.extractLsb' 2 6 = 0#6 ∧
      v.extractLsb' 8 8 = s.cfg.waitTicks ∧ v.extractLsb' 16 7 = s.cfg.slvAddr ∧ v.extractLsb' 23 9 = 0#9) ∧
    (∀ (d : Word) (t u : State), exec (.hwCfg lo d) s = .next t → exec (.hrCfg lo') t = .next u →
      u.ports.hostData = some (d &&& 0x007FFF03#32))

/-- R275: a read of RX_DATA returns the word and clears RX_READY in one event, so irq falls. -/
def Obligations.RxDataReadConsumes : Prop :=
  ∀ (lo : BitVec 2) (s : State),
    ∃ t, exec (.hrRxData lo) s = .next t ∧
      t = { s with slv := { s.slv with rxReady := false }, ports := { s.ports with hostData := some s.slv.rxData } } ∧
      t.irq = false

/-- R80: every host read but that of RX_DATA returns a value and changes nothing else. -/
def Obligations.OtherHostReadsHaveNoSideEffect : Prop :=
  ∀ (i : Instr) (s : State), (encode i).extractLsb' 40 4 = 2#4 → (encode i).extractLsb' 34 6 ≠ 8#6 →
    ∃ v, exec i s = .next { s with ports := { s.ports with hostData := some v } }

/-! ### The calibration loader -/

/-- R171: L_RESET sends CMD_RESET; then the wait starts, or the load fails. -/
def Obligations.LoaderResetStep : Prop :=
  ∀ s : State, s.ldr.phase = .lReset →
    exec .tickLReset s = .next
      { s with
        ldr := if s.env.answerAt 0 = .fail then { s.ldr with calErr := true, calBusy := false, phase := .lIdle }
               else { s.ldr with cnt := s.params.resetWaitTicks, phase := .lWait }
        env := s.env.afterAnswers 1
        ports := { s.ports with sensorCalls := s.ports.sensorCalls ++ [.write s.params.cmdReset] } }

/-- R172: L_WAIT counts down and goes on when the count is 0 after the decrement; no sensor call. -/
def Obligations.LoaderWaitStep : Prop :=
  ∀ s : State, s.ldr.phase = .lWait →
    (s.ldr.cnt.toNat ≤ 1 → exec .tickLWait s = .next { s with ldr := { s.ldr with cnt := 0#8, phase := .lProm } }) ∧
    (1 < s.ldr.cnt.toNat →
      exec .tickLWait s = .next { s with ldr := { s.ldr with cnt := BitVec.ofNat 8 (s.ldr.cnt.toNat - 1) } })

/-- The 14 calls of an L_PROM step, in order (R174). -/
def promCalls (p : Params) : List SensorCall :=
  [.write p.cmdProm.c0, .read 2, .write p.cmdProm.c1, .read 2, .write p.cmdProm.c2, .read 2, .write p.cmdProm.c3, .read 2,
   .write p.cmdProm.c4, .read 2, .write p.cmdProm.c5, .read 2, .write p.cmdProm.c6, .read 2]

/-- The PROM word an answer gives (R77, R173); it is used for answers that are not `fail` only. -/
def answeredWord (order : PromWordOrder) (a : SensorAnswer) : Half :=
  match a, order with
  | .ok b0 b1 _, .bigEndian => b0 ++ b1
  | .ok b0 b1 _, .littleEndian => b1 ++ b0
  | .fail, _ => 0#16

/-- R174 with R173: with no failing call the seven words, each assembled in the configured order, are committed together;
the first failing call ends the load, with CAL and CAL_VALID unchanged and no further call made. -/
def Obligations.LoaderPromStep : Prop :=
  ∀ s : State, s.ldr.phase = .lProm →
    ((∀ n, n < 14 → s.env.answerAt n ≠ .fail) →
      let w (n : Nat) : Half := answeredWord s.params.promWordOrder (s.env.answerAt n)
      exec .tickLProm s = .next
        { s with
          ldr := { s.ldr with cal := ⟨w 1, w 3, w 5, w 7, w 9, w 11, w 13⟩, calValid := true, calBusy := false, phase := .lIdle }
          env := s.env.afterAnswers 14
          ports := { s.ports with sensorCalls := s.ports.sensorCalls ++ promCalls s.params } }) ∧
    (∀ k, k < 14 → (∀ n, n < k → s.env.answerAt n ≠ .fail) → s.env.answerAt k = .fail →
      exec .tickLProm s = .next
        { s with
          ldr := { s.ldr with calErr := true, calBusy := false, phase := .lIdle }
          env := s.env.afterAnswers (k + 1)
          ports := { s.ports with sensorCalls := s.ports.sensorCalls ++ (promCalls s.params).take (k + 1) } })

/-! ### The sequencer -/

/-- The state after SeqError(`code`) (R160), with `n` answers used up and the calls `calls` made in the failing tick. -/
def afterSeqError (s : State) (code : BitVec 4) (n : Nat) (calls : List SensorCall) : State :=
  { s with
    seq := { s.seq with state := .error, waitCnt := 0, lastFailState := code }
    reading := { s.reading with valid := false }
    env := s.env.afterAnswers n
    ports := { s.ports with sensorCalls := s.ports.sensorCalls ++ calls } }

/-- R150, and R170 with LDR_PHASE = L_IDLE: these halves of a tick change nothing; so the whole tick does nothing when both
apply. -/
def Obligations.IdleStepsChangeNothing : Prop :=
  ∀ s : State,
    (s.seq.state = .idle → exec .tickIdle s = .next s) ∧
    (s.ldr.phase = .lIdle → exec .tickLIdle s = .next s) ∧
    (s.seq.state = .idle → s.ldr.phase = .lIdle → exec .tick s = .next s)

/-- R151 (START_P) and R154 (START_T): the conversion command goes out; then the settling wait is loaded, or Error is entered
with the state's own code. A counter too narrow for WAIT_TICKS, which at R23's 8 bits does not occur, takes a free value (log
entry 21). -/
def Obligations.StartConversionSteps : Prop :=
  ∀ (i : Instr) (now wait : SeqState) (code : BitVec 4) (s : State) (cmd : Byte),
    (i, now, wait, code, cmd) ∈ [(Instr.tickStartP, SeqState.startP, SeqState.waitP, 1#4, s.params.cmdConvD1),
                                 (Instr.tickStartT, SeqState.startT, SeqState.waitT, 4#4, s.params.cmdConvD2)] →
    s.seq.state = now →
    (s.env.answerAt 0 = .fail → exec i s = .next (afterSeqError s code 1 [.write cmd])) ∧
    (s.env.answerAt 0 ≠ .fail → ∃ c : Nat,
      (s.cfg.waitTicks.toNat < 2 ^ s.params.waitCntWidth → c = s.cfg.waitTicks.toNat) ∧
      exec i s = .next
        { s with
          seq := { s.seq with waitCnt := c, state := wait }
          env := s.env.afterAnswers 1
          ports := { s.ports with sensorCalls := s.ports.sensorCalls ++ [.write cmd] } })

/-- R152 (WAIT_P) and R155 (WAIT_T): the counter is decremented, never below 0, and the state moves on when it is then 0. -/
def Obligations.WaitConversionSteps : Prop :=
  ∀ (i : Instr) (now read : SeqState) (s : State),
    (i, now, read) ∈ [(Instr.tickWaitP, SeqState.waitP, SeqState.readP), (Instr.tickWaitT, SeqState.waitT, SeqState.readT)] →
    s.seq.state = now →
    (s.seq.waitCnt ≤ 1 → exec i s = .next { s with seq := { s.seq with waitCnt := 0, state := read } }) ∧
    (1 < s.seq.waitCnt → exec i s = .next { s with seq := { s.seq with waitCnt := s.seq.waitCnt - 1 } })

/-- The 24-bit code an answer gives, big-endian (R76); it is used for answers that are not `fail` only. -/
def answeredCode (a : SensorAnswer) : Code24 :=
  match a with
  | .ok b0 b1 b2 => BitVec.ofNat 24 (b0.toNat * 2 ^ 16 + b1.toNat * 2 ^ 8 + b2.toNat)
  | .fail => 0#24

/-- R153 (READ_P) and R156 (READ_T): CMD_ADC_READ goes out, then 3 bytes are read into RAW_D1 or RAW_D2; a failure of either
call enters Error with the state's own code, and a failed write issues no read. -/
def Obligations.ReadAdcSteps : Prop :=
  ∀ (i : Instr) (now : SeqState) (code : BitVec 4) (done : Code24 → Sequencer) (s : State),
    (i = .tickReadP ∧ now = .readP ∧ code = 3#4 ∧ done = fun d => { s.seq with rawD1 := d, state := .startT }) ∨
    (i = .tickReadT ∧ now = .readT ∧ code = 6#4 ∧ done = fun d => { s.seq with rawD2 := d, state := .calc }) →
    s.seq.state = now →
    (s.env.answerAt 0 = .fail → exec i s = .next (afterSeqError s code 1 [.write s.params.cmdAdcRead])) ∧
    (s.env.answerAt 0 ≠ .fail → s.env.answerAt 1 = .fail →
      exec i s = .next (afterSeqError s code 2 [.write s.params.cmdAdcRead, .read 3])) ∧
    (s.env.answerAt 0 ≠ .fail → s.env.answerAt 1 ≠ .fail →
      exec i s = .next
        { s with
          seq := done (answeredCode (s.env.answerAt 1))
          env := s.env.afterAnswers 2
          ports := { s.ports with sensorCalls := s.ports.sensorCalls ++ [.write s.params.cmdAdcRead, .read 3] } })

/-- R157: CALC publishes the engine's results, which read back as signed integers are exactly the engine's, and starts the
next cycle; with no calibration loaded it enters Error with code 7. -/
def Obligations.CalculateStep : Prop :=
  ∀ s : State, s.seq.state = .calc →
    (s.ldr.calValid = false → exec .tickCalc s = .next
      { s with
        seq := { s.seq with state := .error, waitCnt := 0, lastFailState := 7#4 }
        reading := { s.reading with valid := false } }) ∧
    (s.ldr.calValid = true → ∃ p t : Word,
      exec .tickCalc s = .next
        { s with reading := { pressure := p, temperature := t, valid := true }, seq := { s.seq with state := .startP } } ∧
      p.toInt = (compensate s.params.divMode s.ldr.cal s.seq.rawD1 s.seq.rawD2).1 ∧
      t.toInt = (compensate s.params.divMode s.ldr.cal s.seq.rawD1 s.seq.rawD2).2)

/-- R158: an Error tick clears READING_VALID and counts; once the count passes ERR_RETRY_LIMIT, the sequencer starts again.
The count saturates at the largest of WAIT_CNT_WIDTH bits: 255 at the 8 bits R158 writes (log entry 15). -/
def Obligations.ErrorStep : Prop :=
  ∀ s : State, s.seq.state = .error → s.seq.waitCnt < 2 ^ s.params.waitCntWidth →
    let c : Nat := min (2 ^ s.params.waitCntWidth - 1) (s.seq.waitCnt + 1)
    (s.params.errRetryLimit < c →
      exec .tickError s = .next
        { s with reading := { s.reading with valid := false }, seq := { s.seq with waitCnt := 0, state := .startP } }) ∧
    (c ≤ s.params.errRetryLimit →
      exec .tickError s = .next
        { s with reading := { s.reading with valid := false }, seq := { s.seq with waitCnt := c } })

/-- R145, R237: a tick completes in every state that holds no never-held SEQ_STATE; it leaves the responder, CFG and CMD_REJ,
the parameters and the events to come as they were, and answers neither host nor bus. -/
def Obligations.TickCompletesWithItsFrame : Prop :=
  ∀ s : State, s.seq.state.code.toNat ≤ 8 →
    ∃ t, exec .tick s = .next t ∧ t.slv = s.slv ∧ t.cfg = s.cfg ∧ t.params = s.params ∧ t.env.events = s.env.events ∧
      t.ports.hostData = s.ports.hostData ∧ t.ports.busAnswer = s.ports.busAnswer

/-- R160 with R320 (the spec's inference): whenever a step enters Error, the failing state's code is saved, WAIT_CNT and READING_VALID are cleared, and
every other state element of the core is as before. -/
def Obligations.ErrorEntryIsPrecise : Prop :=
  ∀ s t : State, CoreInv s → step s = .next t → s.seq.state ≠ .error → t.seq.state = .error →
    t.seq = { s.seq with state := .error, waitCnt := 0, lastFailState := s.seq.state.code } ∧
    s.seq.state ∈ [SeqState.startP, .readP, .startT, .readT] ∧
    t.reading = { s.reading with valid := false } ∧ t.ldr = s.ldr ∧ t.slv = s.slv ∧ t.cfg = s.cfg

/-- R161 (the spec's inference): outside Error and host commands, a tick moves SEQ_STATE along the cycle or leaves a Wait state as it is. -/
def Obligations.TickFollowsTheCycle : Prop :=
  ∀ s t : State, CoreInv s → exec .tick s = .next t → t.seq.state ≠ .error →
    (s.seq.state, t.seq.state) ∈
      [(SeqState.idle, SeqState.idle), (.startP, .waitP), (.waitP, .waitP), (.waitP, .readP), (.readP, .startT), (.startT, .waitT),
       (.waitT, .waitT), (.waitT, .readT), (.readT, .calc), (.calc, .startP), (.error, .startP)]

/-- R237 (the spec's inference), R312: what a tick does to the sequencer, the loader and the reading does not depend on the responder, and the
responder is carried along unchanged. -/
def Obligations.TickDoesNotReadTheResponder : Prop :=
  ∀ (s t : State) (r : Responder), exec .tick s = .next t →
    exec .tick { s with slv := r } = .next { t with slv := r }

/-- R237 (the spec's inference), R312: what a bus event does does not depend on the sequencer, the loader or the reading. -/
def Obligations.BusEventsDoNotReadTheSequencer : Prop :=
  ∀ (i : Instr) (s t : State) (q : Sequencer) (l : Loader) (r : Reading),
    (encode i).extractLsb' 40 4 = 4#4 → exec i s = .next t →
    exec i { s with seq := q, ldr := l, reading := r } = .next { t with seq := q, ldr := l, reading := r }

/-- R163 (the spec's inference), for any limit below the largest count of WAIT_CNT_WIDTH bits: from the entry to Error,
k ≤ ERR_RETRY_LIMIT ticks leave Error with WAIT_CNT = k, one more tick leads to START_P, and the tick after that sends
CMD_CONV_D1. R158 writes satinc_8, so the largest count is 255; that a counter of another width saturates at its own largest
count is the model's reading (log entry 15, DEDUCED). -/
def Obligations.ErrorEpisodeLength : Prop :=
  ∀ (s : State) (rest : List OpWord), CoreInv s → s.seq.state = .error → s.seq.waitCnt = 0 →
    s.params.errRetryLimit < 2 ^ s.params.waitCntWidth - 1 →
    s.env.events = List.replicate (s.params.errRetryLimit + 2) tickWord ++ rest →
    (∀ k, k ≤ s.params.errRetryLimit →
      ∃ t, Host.Core.run core k s = .next t ∧ t.seq.state = .error ∧ t.seq.waitCnt = k) ∧
    (∃ t, Host.Core.run core (s.params.errRetryLimit + 1) s = .next t ∧ t.seq.state = .startP ∧ t.seq.waitCnt = 0 ∧
      t.reading.valid = false) ∧
    (∃ t, Host.Core.run core (s.params.errRetryLimit + 2) s = .next t ∧
      t.ports.sensorCalls = [.write s.params.cmdConvD1])

/-- R162 (the spec's inference), for a wait counter that holds WAIT_TICKS (R23's 8 bits always do): with no failure a cycle takes 5 + 2·max(1, WAIT_TICKS) ticks, and leaves a valid reading,
computed from the codes read in it. -/
def Obligations.CycleLength : Prop :=
  ∀ (s : State) (rest : List OpWord), CoreInv s → s.seq.state = .startP → s.cfg.waitTicks.toNat < 2 ^ s.params.waitCntWidth →
    (∀ n, n < 6 → s.env.answerAt n ≠ .fail) →
    s.env.events = List.replicate (5 + 2 * max 1 s.cfg.waitTicks.toNat) tickWord ++ rest →
    ∃ t, Host.Core.run core (5 + 2 * max 1 s.cfg.waitTicks.toNat) s = .next t ∧ t.env.events = rest ∧
      t.seq.state = .startP ∧ t.reading.valid = true ∧
      t.seq.rawD1 = answeredCode (s.env.answerAt 2) ∧ t.seq.rawD2 = answeredCode (s.env.answerAt 5) ∧
      t.reading.pressure.toInt = (compensate s.params.divMode s.ldr.cal t.seq.rawD1 t.seq.rawD2).1 ∧
      t.reading.temperature.toInt = (compensate s.params.divMode s.ldr.cal t.seq.rawD1 t.seq.rawD2).2

/-- R175 (the spec's inference): a load with no failing call ends after exactly 2 + max(1, RESET_WAIT_TICKS) ticks, and
CAL_VALID is 0 after every tick before. -/
def Obligations.LoadLength : Prop :=
  ∀ (s : State) (rest : List OpWord), CoreInv s → s.ldr.phase = .lReset →
    (∀ n, n < 15 → s.env.answerAt n ≠ .fail) →
    s.env.events = List.replicate (2 + max 1 s.params.resetWaitTicks.toNat) tickWord ++ rest →
    (∃ t, Host.Core.run core (2 + max 1 s.params.resetWaitTicks.toNat) s = .next t ∧ t.env.events = rest ∧
      t.ldr.calValid = true ∧ t.ldr.calBusy = false ∧ t.ldr.phase = .lIdle) ∧
    (∀ k, k < 2 + max 1 s.params.resetWaitTicks.toNat →
      ∃ t, Host.Core.run core k s = .next t ∧ t.ldr.calValid = false ∧ t.ldr.calBusy = true)

/-- R26, R27, R49 (4): a loaded calibration set stays, and stays valid, through every step but a reset. -/
def Obligations.CalibrationImmutable : Prop :=
  ∀ s t : State, CoreInv s → s.ldr.calValid = true → step s = .next t → s.env.events.head? ≠ some resetWord →
    t.ldr.cal = s.ldr.cal ∧ t.ldr.calValid = true

/-- R164 (the spec's inference), R31, R49 (3): only a tick in CALC writes PRESSURE and TEMPERATURE or sets READING_VALID,
resets apart. -/
def Obligations.ReadingWrittenByCalculateOnly : Prop :=
  ∀ s t : State, CoreInv s → step s = .next t → s.env.events.head? ≠ some resetWord →
    (t.reading.pressure ≠ s.reading.pressure ∨ t.reading.temperature ≠ s.reading.temperature ∨
      (s.reading.valid = false ∧ t.reading.valid = true)) →
    s.env.events.head? = some tickWord ∧ s.seq.state = .calc ∧ t.seq.state = .startP

/-! ### The compensation engine -/

/-- R200, R202, R205, R206, R207: the engine's formula, each of its five divisions rounding as DIV_MODE
says, each result clamped to the signed 32-bit range. -/
def Obligations.CompensationFormulas : Prop :=
  ∀ (mode : DivMode) (c : Seven Half) (d1 d2 : Code24),
    let div (a : Int) (k : Nat) : Int := if mode = .trunc then a.tdiv (2 ^ k) else a.fdiv (2 ^ k)
    let dT : Int := d2.toNat - c.c5.toNat * 256
    let temp : Int := 2000 + div (dT * c.c6.toNat) 23
    let off : Int := c.c2.toNat * 131072 + div (c.c4.toNat * dT) 6
    let sens : Int := c.c1.toNat * 65536 + div (c.c3.toNat * dT) 7
    let p : Int := div (div (d1.toNat * sens) 21 - off) 15
    let clamp (x r : Int) : Prop :=
      (x < -2147483648 → r = -2147483648) ∧ (2147483647 < x → r = 2147483647) ∧
      (-2147483648 ≤ x → x ≤ 2147483647 → r = x)
    clamp p (compensate mode c d1 d2).1 ∧ clamp temp (compensate mode c d1 d2).2 ∧
    ∀ x : Int, clamp x (sat32 x)

/-- R208: trunc rounds toward zero, floor toward minus infinity, which is an arithmetic right shift; the two agree on a
dividend that is non-negative or an exact multiple, and differ by exactly 1 elsewhere. -/
def Obligations.RoundingModesCompared : Prop :=
  ∀ (a : Int) (k : Nat),
    (|engineDiv .trunc a k * 2 ^ k| ≤ |a| ∧ |a - engineDiv .trunc a k * 2 ^ k| < 2 ^ k) ∧
    (engineDiv .floor a k * 2 ^ k ≤ a ∧ a < (engineDiv .floor a k + 1) * 2 ^ k) ∧ engineDiv .floor a k = a >>> k ∧
    (0 ≤ a ∨ (2 : Int) ^ k ∣ a → engineDiv .trunc a k = engineDiv .floor a k) ∧
    (a < 0 → ¬ (2 : Int) ^ k ∣ a → engineDiv .trunc a k = engineDiv .floor a k + 1)

/-- R204, R209 (the spec's inference): for all operands and both modes, |P| < 2^22 and |TEMP| < 2^18, so saturation changes
nothing. -/
def Obligations.CompensationNeverSaturates : Prop :=
  ∀ (mode : DivMode) (c : Seven Half) (d1 d2 : Code24),
    |compP mode c d1 d2| < 2 ^ 22 ∧ |compTemp mode c d2| < 2 ^ 18 ∧
    compensate mode c d1 d2 = (compP mode c d1 d2, compTemp mode c d2)

/-! ### The responder -/

/-- R75: byte k of a word is bits 8k+7 to 8k, and decoding the encoded bytes gives the word back, both ways. -/
def Obligations.LittleEndianRoundTrip : Prop :=
  (∀ w : Word, ∃ b0 b1 b2 b3 : Byte, leEncode w = [b0, b1, b2, b3] ∧ leDecode b0 b1 b2 b3 = w) ∧
  (∀ b0 b1 b2 b3 : Byte, leEncode (leDecode b0 b1 b2 b3) = [b0, b1, b2, b3] ∧
    (leDecode b0 b1 b2 b3).toNat = b0.toNat + b1.toNat * 2 ^ 8 + b2.toNat * 2 ^ 16 + b3.toNat * 2 ^ 24)

/-- R223 (to write) and R224 (to read, TXBUF loaded from TX_HOLD), with R221: a matching address is taken in every direction
state. -/
def Obligations.AddressMatches : Prop :=
  ∀ (a7 : BitVec 7) (s : State), s.cfg.slvEn = true → a7 = s.cfg.slvAddr →
    exec (.busAddrWMatch a7) s = .next
      { s with slv := { s.slv with dir := .receiving, bcnt := 0#3 }, ports := { s.ports with busAnswer := some .ack } } ∧
    exec (.busAddrRMatch a7) s = .next
      { s with
        slv := { s.slv with txbuf := s.slv.txHold, dir := .transmitting, bcnt := 0#3 }
        ports := { s.ports with busAnswer := some .ack } }

/-- R227, R221: an address that does not match, or any address when not started, is refused and ends a transfer in flight. -/
def Obligations.AddressNoMatch : Prop :=
  ∀ (a7 : BitVec 7) (rw : Bool) (s : State), s.cfg.slvEn = false ∨ a7 ≠ s.cfg.slvAddr →
    exec (.busAddrNomatch a7 rw) s = .next
      { s with
        slv := if s.slv.dir = .none then s.slv else { s.slv with dir := .none, bcnt := 0#3 }
        ports := { s.ports with busAnswer := some .nack } }

/-- R225: a written byte before the fourth goes to its own byte of RXBUF, and no other byte of RXBUF changes. -/
def Obligations.WriteByteReceiving : Prop :=
  ∀ (b : Byte) (s : State), s.slv.dir = .receiving → s.slv.bcnt.toNat < 3 →
    ∃ r : Word,
      exec (.busWbRx b) s = .next
        { s with slv := { s.slv with rxbuf := r, bcnt := s.slv.bcnt + 1#3 }, ports := { s.ports with busAnswer := some .ack } } ∧
      (∀ k, k < 4 → r.extractLsb' (8 * k) 8 = if k = s.slv.bcnt.toNat then b else s.slv.rxbuf.extractLsb' (8 * k) 8)

/-- R226: the fourth written byte completes the word, marks it ready and returns the responder to None. -/
def Obligations.WriteLastByteReceiving : Prop :=
  ∀ (b : Byte) (s : State), s.slv.dir = .receiving → s.slv.bcnt = 3#3 →
    ∃ w : Word, w.extractLsb' 24 8 = b ∧ w.extractLsb' 0 24 = s.slv.rxbuf.extractLsb' 0 24 ∧
      exec (.busWbRxLast b) s = .next
        { s with
          slv := { s.slv with rxbuf := w, rxData := w, rxReady := true, dir := .none, bcnt := 0#3 }
          ports := { s.ports with busAnswer := some .ack } }

/-- R228 and R229: a written byte with no transfer is refused; in a read transaction it also ends the transfer. -/
def Obligations.WriteByteElsewhere : Prop :=
  ∀ (b : Byte) (s : State),
    (s.slv.dir = .none → exec (.busWbNone b) s = .next { s with ports := { s.ports with busAnswer := some .nack } }) ∧
    (s.slv.dir = .transmitting → exec (.busWbTx b) s = .next
      { s with slv := { s.slv with dir := .none, bcnt := 0#3 }, ports := { s.ports with busAnswer := some .nack } })

/-- R230: byte BCNT of TXBUF is driven; the fourth ends the transfer. -/
def Obligations.ReadByteTransmitting : Prop :=
  ∀ s : State, s.slv.dir = .transmitting →
    (s.slv.bcnt.toNat < 3 → exec .busRbTx s = .next
      { s with
        slv := { s.slv with bcnt := s.slv.bcnt + 1#3 }
        ports := { s.ports with busAnswer := some (.drive (s.slv.txbuf.extractLsb' (8 * s.slv.bcnt.toNat) 8)) } }) ∧
    (s.slv.bcnt = 3#3 → exec .busRbTxLast s = .next
      { s with
        slv := { s.slv with dir := .none, bcnt := 0#3 }
        ports := { s.ports with busAnswer := some (.drive (s.slv.txbuf.extractLsb' 24 8)) } })

/-- R231: with no word byte to give, OVERRUN_BYTE is driven; in a write transaction the transfer also ends. -/
def Obligations.ReadByteElsewhere : Prop :=
  ∀ s : State,
    (s.slv.dir = .none → exec .busRbNone s = .next
      { s with ports := { s.ports with busAnswer := some (.drive s.params.overrunByte) } }) ∧
    (s.slv.dir = .receiving → exec .busRbRx s = .next
      { s with
        slv := { s.slv with dir := .none, bcnt := 0#3 }
        ports := { s.ports with busAnswer := some (.drive s.params.overrunByte) } })

/-- R232 and R233: STOP and BERR. RX_DATA, RX_READY, TX_HOLD, TXBUF and SLV_EN stay. -/
def Obligations.StopAndBusError : Prop :=
  ∀ s : State,
    (s.slv.dir = .none → exec .busStop s = .next s) ∧
    (s.slv.dir ≠ .none → exec .busStop s = .next { s with slv := { s.slv with dir := .none, bcnt := 0#3 } }) ∧
    exec .busBerr s = .next { s with slv := { s.slv with dir := .none, bcnt := 0#3 } }

/-- R234 (the spec's inference), through decoding and stepping: a write transaction of four bytes to a started responder is
acknowledged and leaves RX_DATA = {b3, b2, b1, b0} and RX_READY = 1, whatever the state before. -/
def Obligations.WriteTransactionDelivers : Prop :=
  ∀ (s : State) (b0 b1 b2 b3 : Byte) (rest : List OpWord),
    s.isHeld = true → s.cfg.slvEn = true →
    s.env.events = [busEventWord 0#4 (s.cfg.slvAddr ++ 0#1), busEventWord 1#4 b0, busEventWord 1#4 b1, busEventWord 1#4 b2,
      busEventWord 1#4 b3, busEventWord 3#4 0#8] ++ rest →
    ∃ (ps : List Ports) (t : State), traceRun 6 s = some (ps, t) ∧
      ps.map Ports.busAnswer = [some .ack, some .ack, some .ack, some .ack, some .ack, none] ∧
      t.slv.rxData = b3 ++ b2 ++ b1 ++ b0 ∧ t.slv.rxReady = true ∧ t.slv.dir = .none ∧ t.slv.bcnt = 0#3 ∧
      t.env.events = rest ∧ t.seq = s.seq ∧ t.ldr = s.ldr ∧ t.reading = s.reading ∧ t.cfg = s.cfg ∧
      t.slv.txHold = s.slv.txHold

/-- R235 (the spec's inference), through decoding and stepping: after the host has written v1 and then v2 to TX_HOLD, a read
transaction from a started responder returns the four bytes of v2, the least significant first, and leaves the responder at
rest with v2 in TX_HOLD and TXBUF and everything else as it was. -/
def Obligations.ReadTransactionReturnsLatest : Prop :=
  ∀ (s : State) (lo1 lo2 : BitVec 2) (v1 v2 : Word) (rest : List OpWord),
    s.isHeld = true → s.cfg.slvEn = true →
    s.env.events = [hostWriteWord 7#6 lo1 v1, hostWriteWord 7#6 lo2 v2, busEventWord 0#4 (s.cfg.slvAddr ++ 1#1),
      busEventWord 2#4 0#8, busEventWord 2#4 0#8, busEventWord 2#4 0#8, busEventWord 2#4 0#8, busEventWord 3#4 0#8] ++ rest →
    ∃ (ps : List Ports) (t : State), traceRun 8 s = some (ps, t) ∧
      ps.map Ports.busAnswer = [none, none, some .ack, some (.drive (v2.extractLsb' 0 8)),
        some (.drive (v2.extractLsb' 8 8)), some (.drive (v2.extractLsb' 16 8)), some (.drive (v2.extractLsb' 24 8)), none] ∧
      t.slv = { s.slv with dir := .none, bcnt := 0#3, txbuf := v2, txHold := v2 } ∧ t.seq = s.seq ∧ t.ldr = s.ldr ∧
      t.reading = s.reading ∧ t.cfg = s.cfg ∧ t.params = s.params ∧ t.env = { s.env with events := rest }

/-- R310: irq is RX_READY ∧ RX_IE. It rises when a receive completes with RX_IE = 1 or the host sets RX_IE while
RX_READY = 1, falls on a read of RX_DATA, on clearing RX_IE and at reset, and changes at no other event. -/
def Obligations.IrqRisesAndFalls : Prop :=
  (∀ s : State, s.irq = true ↔ s.slv.rxReady = true ∧ s.cfg.rxIe = true) ∧
  (∀ (b : Byte) (s : State), s.slv.dir = .receiving → s.slv.bcnt = 3#3 →
    ∃ t, exec (.busWbRxLast b) s = .next t ∧ t.irq = s.cfg.rxIe) ∧
  (∀ (lo : BitVec 2) (d : Word) (s : State), ∃ t, exec (.hwCfg lo d) s = .next t ∧
    (t.irq = true ↔ d.getLsbD 1 = true ∧ s.slv.rxReady = true)) ∧
  (∀ (lo : BitVec 2) (s : State), ∃ t, exec (.hrRxData lo) s = .next t ∧ t.irq = false) ∧
  (∀ s : State, ∃ t, exec .reset s = .next t ∧ t.irq = false) ∧
  ∀ (i : Instr) (s t : State), exec i s = .next t →
    (s.irq = false → t.irq = true →
      ((encode i).extractLsb' 36 8 = 0x41#8 ∧ s.slv.dir = .receiving ∧ s.slv.bcnt = 3#3 ∧ s.cfg.rxIe = true) ∨
      (∃ lo d, i = .hwCfg lo d ∧ d.getLsbD 1 = true ∧ s.slv.rxReady = true)) ∧
    (s.irq = true → t.irq = false →
      (∃ lo, i = .hrRxData lo) ∨ (∃ lo d, i = .hwCfg lo d ∧ d.getLsbD 1 = false) ∨ i = .reset)

/-- R360 (the spec's inference): which events write what, resets apart. The kind of event is read from its
word: K, for a host access OFF[7:2], for a bus event EV, and for an address RW. -/
def Obligations.SharingDiscipline : Prop :=
  ∀ (i : Instr) (s t : State), i ≠ .reset → exec i s = .next t →
    let kind : BitVec 4 := (encode i).extractLsb' 40 4
    let hostWrites (reg : BitVec 6) : Prop := kind = 1#4 ∧ (encode i).extractLsb' 34 6 = reg
    let hostReads (reg : BitVec 6) : Prop := kind = 2#4 ∧ (encode i).extractLsb' 34 6 = reg
    let busWrites : Prop := kind = 4#4 ∧ (encode i).extractLsb' 36 4 = 1#4
    let busReadAddress : Prop := kind = 4#4 ∧ (encode i).extractLsb' 36 4 = 0#4 ∧ (encode i).getLsbD 0 = true
    (t.seq ≠ s.seq → kind = 3#4 ∨ hostWrites 0#6) ∧ (t.ldr ≠ s.ldr → kind = 3#4 ∨ hostWrites 0#6) ∧
    (t.reading ≠ s.reading → kind = 3#4) ∧
    ((t.slv.dir ≠ s.slv.dir ∨ t.slv.bcnt ≠ s.slv.bcnt) → kind = 4#4 ∨ hostWrites 1#6) ∧
    (t.slv.rxbuf ≠ s.slv.rxbuf ∨ t.slv.rxData ≠ s.slv.rxData → busWrites) ∧
    (t.slv.txbuf ≠ s.slv.txbuf → busReadAddress ∧ t.slv.txbuf = s.slv.txHold) ∧
    (t.slv.rxReady ≠ s.slv.rxReady → busWrites ∨ hostReads 8#6) ∧ (t.slv.txHold ≠ s.slv.txHold → hostWrites 7#6) ∧
    ({ t.cfg with cmdRej := s.cfg.cmdRej } ≠ s.cfg → hostWrites 1#6) ∧
    (t.env ≠ s.env ∨ t.ports.sensorCalls ≠ s.ports.sensorCalls → kind = 3#4) ∧
    (t.ports.busAnswer ≠ s.ports.busAnswer → kind = 4#4) ∧ (t.ports.hostData ≠ s.ports.hostData → kind = 2#4) ∧
    t.params = s.params ∧ t.env.events = s.env.events

/-! ### Reset and the host reference procedure -/

/-- R340, R51: reset gives every state element its reset value, in any state, WAIT_TICKS_RESET being 1 by default. The
parameters, the outside world and the outputs stay: they are no state of the core, and nothing is sent (R341). -/
def Obligations.ResetEffect : Prop :=
  Params.default.waitTicksReset = 1#8 ∧
  ∀ s : State, ∃ t, exec .reset s = .next t ∧
    t.seq = { state := .idle, waitCnt := 0, rawD1 := 0#24, rawD2 := 0#24, lastFailState := 0#4 } ∧
    t.ldr = { cal := ⟨0#16, 0#16, 0#16, 0#16, 0#16, 0#16, 0#16⟩, calValid := false, calBusy := false, calErr := false,
              phase := .lIdle, cnt := 0#8 } ∧
    t.reading = { pressure := 0#32, temperature := 0#32, valid := false } ∧
    t.slv = { dir := .none, bcnt := 0#3, rxbuf := 0#32, txbuf := 0#32, rxData := 0#32, rxReady := false, txHold := 0#32 } ∧
    t.cfg = { slvEn := false, rxIe := false, waitTicks := s.params.waitTicksReset, slvAddr := s.params.slaveAddrReset,
              cmdRej := false } ∧
    t.params = s.params ∧ t.env = s.env ∧ t.ports = s.ports ∧ t.irq = false ∧ t.statusWord = 0#32 ∧
    t = { State.resetWith s.params with env := s.env, ports := s.ports }

/-- R286, R287, R288 (host software beside the machine, log entry 17): the host procedure writes nothing without a valid reading; with one it counts, saturating, and publishes
the clamped pressure, whose 32-bit pattern reads back as that value (or as its non-negative part, as NEG_PUBLISH says). -/
def Obligations.CoordinatorPublishes : Prop :=
  ∀ (p : Params) (n : Nat) (st pr te : Word), n < 2 ^ p.readCountWidth →
    (st.getLsbD 4 = false →
      coordinator p n st pr te = { count := n, pressure := none, temperature := none, written := none }) ∧
    (st.getLsbD 4 = true →
      (coordinator p n st pr te).count = min (2 ^ p.readCountWidth - 1) (n + 1) ∧
      ∃ (pc tc : Int) (w : Word), (coordinator p n st pr te).pressure = some pc ∧
        (coordinator p n st pr te).temperature = some tc ∧ (coordinator p n st pr te).written = some w ∧
        pc = max (-500000) (min 500000 pr.toInt) ∧ tc = max (-50000) (min 100000 te.toInt) ∧
        (p.negPublish = .twosComplement → w.toInt = pc) ∧ (p.negPublish = .clampZero → w.toInt = max 0 pc))
end

