-- ==== Sys2Proof/Laws/Word.lean ====
section
/-! SUPPORT. Concatenation in numbers, and the byte lanes of a bus word. -/

namespace Sys2Proof.Machine

/-- `{x, y}` as a number. -/
theorem toNat_concat {n m : Nat} (x : BitVec n) (y : BitVec m) : (x ++ y).toNat = x.toNat * 2 ^ m + y.toNat := by
  rw [BitVec.toNat_append, Nat.shiftLeft_eq, Nat.mul_comm, Nat.two_pow_add_eq_or_of_lt y.isLt]

theorem leDecode_toNat (b0 b1 b2 b3 : Byte) :
    (leDecode b0 b1 b2 b3).toNat = b0.toNat + b1.toNat * 2 ^ 8 + b2.toNat * 2 ^ 16 + b3.toNat * 2 ^ 24 := by
  unfold leDecode
  erw [toNat_concat, toNat_concat, toNat_concat]
  omega

theorem getLane_toNat (w : Word) (k : Nat) : (getLane w k).toNat = w.toNat / 2 ^ (8 * k) % 2 ^ 8 := by
  simp [getLane, Nat.shiftRight_eq_div_pow]

@[simp] theorem getLane_leDecode_zero (b0 b1 b2 b3 : Byte) : getLane (leDecode b0 b1 b2 b3) 0 = b0 := by
  apply BitVec.eq_of_toNat_eq
  have := b0.isLt
  rw [getLane_toNat, leDecode_toNat]; omega

@[simp] theorem getLane_leDecode_one (b0 b1 b2 b3 : Byte) : getLane (leDecode b0 b1 b2 b3) 1 = b1 := by
  apply BitVec.eq_of_toNat_eq
  have := b0.isLt; have := b1.isLt
  rw [getLane_toNat, leDecode_toNat]; omega

@[simp] theorem getLane_leDecode_two (b0 b1 b2 b3 : Byte) : getLane (leDecode b0 b1 b2 b3) 2 = b2 := by
  apply BitVec.eq_of_toNat_eq
  have := b0.isLt; have := b1.isLt; have := b2.isLt
  rw [getLane_toNat, leDecode_toNat]; omega

@[simp] theorem getLane_leDecode_three (b0 b1 b2 b3 : Byte) : getLane (leDecode b0 b1 b2 b3) 3 = b3 := by
  apply BitVec.eq_of_toNat_eq
  have := b0.isLt; have := b1.isLt; have := b2.isLt; have := b3.isLt
  rw [getLane_toNat, leDecode_toNat]; omega

/-- The four lanes of a word make the word. -/
@[simp] theorem leDecode_getLane (w : Word) : leDecode (getLane w 0) (getLane w 1) (getLane w 2) (getLane w 3) = w := by
  apply BitVec.eq_of_toNat_eq
  have := w.isLt
  rw [leDecode_toNat, getLane_toNat, getLane_toNat, getLane_toNat, getLane_toNat]; omega

/-- Writing a lane writes that lane and no other. -/
theorem getLane_setLane (w : Word) (b : Byte) {k j : Nat} (hk : k < 4) (hj : j < 4) :
    getLane (setLane w k b) j = if j = k then b else getLane w j := by
  have hk' : k = 0 ∨ k = 1 ∨ k = 2 ∨ k = 3 := by omega
  have hj' : j = 0 ∨ j = 1 ∨ j = 2 ∨ j = 3 := by omega
  rcases hk' with rfl | rfl | rfl | rfl <;> rcases hj' with rfl | rfl | rfl | rfl <;> simp [setLane]

/-- The word of rule R226 is the word with its lane 3 written. -/
theorem setLane_three (w : Word) (b : Byte) : setLane w 3 b = b ++ w.extractLsb' 0 24 := by
  apply BitVec.eq_of_toNat_eq
  have := w.isLt
  simp only [setLane]
  rw [leDecode_toNat, getLane_toNat, getLane_toNat, getLane_toNat]
  erw [toNat_concat]
  simp only [BitVec.extractLsb'_toNat, Nat.shiftRight_zero]
  omega

end Sys2Proof.Machine
end

