-- ==== Sys2Proof/Laws/Encoding.lean ====
section
/-! SUPPORT. The fields of the five operation-word formats (30_encoding.md R101 to R105), as numbers and one by one. -/

namespace Sys2Proof.Machine

theorem hostWriteWord_toNat (reg : BitVec 6) (lo : BitVec 2) (data : Word) :
    (hostWriteWord reg lo data).toNat = 2 ^ 40 + reg.toNat * 2 ^ 34 + lo.toNat * 2 ^ 32 + data.toNat := by
  unfold hostWriteWord
  erw [toNat_concat, toNat_concat, toNat_concat]
  simp; omega

theorem hostReadWord_toNat (reg : BitVec 6) (lo : BitVec 2) :
    (hostReadWord reg lo).toNat = 2 * 2 ^ 40 + reg.toNat * 2 ^ 34 + lo.toNat * 2 ^ 32 := by
  unfold hostReadWord
  erw [toNat_concat, toNat_concat, toNat_concat]
  simp; omega

theorem busEventWord_toNat (ev : BitVec 4) (pay : Byte) :
    (busEventWord ev pay).toNat = 4 * 2 ^ 40 + ev.toNat * 2 ^ 36 + pay.toNat := by
  unfold busEventWord
  erw [toNat_concat, toNat_concat, toNat_concat]
  simp; omega

@[simp] theorem hostWriteWord_kind (reg : BitVec 6) (lo : BitVec 2) (data : Word) :
    (hostWriteWord reg lo data).extractLsb' 40 4 = 1#4 := by
  apply BitVec.eq_of_toNat_eq
  have := reg.isLt; have := lo.isLt; have := data.isLt
  simp [hostWriteWord_toNat, Nat.shiftRight_eq_div_pow]; omega

@[simp] theorem hostWriteWord_off (reg : BitVec 6) (lo : BitVec 2) (data : Word) :
    (hostWriteWord reg lo data).extractLsb' 32 8 = reg ++ lo := by
  apply BitVec.eq_of_toNat_eq
  have := reg.isLt; have := lo.isLt; have := data.isLt
  erw [toNat_concat]
  simp [hostWriteWord_toNat, Nat.shiftRight_eq_div_pow]; omega

@[simp] theorem hostWriteWord_data (reg : BitVec 6) (lo : BitVec 2) (data : Word) :
    (hostWriteWord reg lo data).extractLsb' 0 32 = data := by
  apply BitVec.eq_of_toNat_eq
  have := reg.isLt; have := lo.isLt; have := data.isLt
  simp [hostWriteWord_toNat]; omega

@[simp] theorem hostReadWord_kind (reg : BitVec 6) (lo : BitVec 2) : (hostReadWord reg lo).extractLsb' 40 4 = 2#4 := by
  apply BitVec.eq_of_toNat_eq
  have := reg.isLt; have := lo.isLt
  simp [hostReadWord_toNat, Nat.shiftRight_eq_div_pow]; omega

@[simp] theorem hostReadWord_off (reg : BitVec 6) (lo : BitVec 2) :
    (hostReadWord reg lo).extractLsb' 32 8 = reg ++ lo := by
  apply BitVec.eq_of_toNat_eq
  have := reg.isLt; have := lo.isLt
  erw [toNat_concat]
  simp [hostReadWord_toNat, Nat.shiftRight_eq_div_pow]; omega

@[simp] theorem hostReadWord_zero (reg : BitVec 6) (lo : BitVec 2) : (hostReadWord reg lo).extractLsb' 0 32 = 0#32 := by
  apply BitVec.eq_of_toNat_eq
  have := reg.isLt; have := lo.isLt
  simp [hostReadWord_toNat]; omega

@[simp] theorem busEventWord_kind (ev : BitVec 4) (pay : Byte) : (busEventWord ev pay).extractLsb' 40 4 = 4#4 := by
  apply BitVec.eq_of_toNat_eq
  have := ev.isLt; have := pay.isLt
  simp [busEventWord_toNat, Nat.shiftRight_eq_div_pow]; omega

@[simp] theorem busEventWord_event (ev : BitVec 4) (pay : Byte) : (busEventWord ev pay).extractLsb' 36 4 = ev := by
  apply BitVec.eq_of_toNat_eq
  have := ev.isLt; have := pay.isLt
  simp [busEventWord_toNat, Nat.shiftRight_eq_div_pow]; omega

@[simp] theorem busEventWord_zero (ev : BitVec 4) (pay : Byte) : (busEventWord ev pay).extractLsb' 8 28 = 0#28 := by
  apply BitVec.eq_of_toNat_eq
  have := ev.isLt; have := pay.isLt
  simp [busEventWord_toNat, Nat.shiftRight_eq_div_pow]; omega

@[simp] theorem busEventWord_payload (ev : BitVec 4) (pay : Byte) : (busEventWord ev pay).extractLsb' 0 8 = pay := by
  apply BitVec.eq_of_toNat_eq
  have := ev.isLt; have := pay.isLt
  simp [busEventWord_toNat]; omega

/-- OFF splits into OFF[7:2] and OFF[1:0]. -/
@[simp] theorem off_reg (reg : BitVec 6) (lo : BitVec 2) : (reg ++ lo).extractLsb' 2 6 = reg :=
  BitVec.extractLsb'_append_eq_left

@[simp] theorem off_lo (reg : BitVec 6) (lo : BitVec 2) : (reg ++ lo).extractLsb' 0 2 = lo :=
  BitVec.extractLsb'_append_eq_right

/-- Decoding a word of each format comes down to the decoder of the format. -/
theorem decode_hostWriteWord (reg : BitVec 6) (lo : BitVec 2) (data : Word) :
    decode (hostWriteWord reg lo data) = .ok (decodeHostWrite (reg ++ lo) data) := by
  simp [decode]

theorem decode_hostReadWord (reg : BitVec 6) (lo : BitVec 2) :
    decode (hostReadWord reg lo) = .ok (decodeHostRead (reg ++ lo)) := by
  simp [decode]

theorem decode_busEventWord (ev : BitVec 4) (pay : Byte) : decode (busEventWord ev pay) = decodeBusEvent ev 0#28 pay := by
  simp [decode]

/-- DATA splits into the command bits DATA[2:0] and DATA[31:3]. -/
@[simp] theorem data_cmd (rsv : BitVec 29) (cmd : BitVec 3) : (rsv ++ cmd).extractLsb' 0 3 = cmd :=
  BitVec.extractLsb'_append_eq_right

@[simp] theorem data_rsv (rsv : BitVec 29) (cmd : BitVec 3) : (rsv ++ cmd).extractLsb' 3 29 = rsv :=
  BitVec.extractLsb'_append_eq_left

/-- PAY of an ADDR word splits into A7 and RW. -/
@[simp] theorem payload_a7 (a7 : BitVec 7) (rw : BitVec 1) : (a7 ++ rw).extractLsb' 1 7 = a7 :=
  BitVec.extractLsb'_append_eq_left

theorem payload_rw (a7 : BitVec 7) (rw : BitVec 1) : (a7 ++ rw).getLsbD 0 = rw.getLsbD 0 := by
  rw [BitVec.getLsbD_append]; simp

end Sys2Proof.Machine
end

