-- ==== Sys2Proof/Laws/Decode.lean ====
section
/-! SUPPORT. Words taken apart: a word whose fixed fields are a format's is that format's word (R101 to R105), and the
fields of the two unmapped ranges (R265, R280). -/

namespace Sys2Proof.Machine

theorem eq_hostWriteWord {op : OpWord} (h : op.extractLsb' 40 4 = 1#4) :
    op = hostWriteWord (op.extractLsb' 34 6) (op.extractLsb' 32 2) (op.extractLsb' 0 32) := by
  apply BitVec.eq_of_toNat_eq
  rw [hostWriteWord_toNat]
  have := op.isLt
  have h' := congrArg BitVec.toNat h
  simp [Nat.shiftRight_eq_div_pow] at h' ⊢
  omega

theorem eq_hostReadWord {op : OpWord} (h : op.extractLsb' 40 4 = 2#4) (h0 : op.extractLsb' 0 32 = 0#32) :
    op = hostReadWord (op.extractLsb' 34 6) (op.extractLsb' 32 2) := by
  apply BitVec.eq_of_toNat_eq
  rw [hostReadWord_toNat]
  have := op.isLt
  have h' := congrArg BitVec.toNat h
  have h2 := congrArg BitVec.toNat h0
  simp [Nat.shiftRight_eq_div_pow] at h' h2 ⊢
  omega

theorem eq_busEventWord {op : OpWord} (h : op.extractLsb' 40 4 = 4#4) (h0 : op.extractLsb' 8 28 = 0#28) :
    op = busEventWord (op.extractLsb' 36 4) (op.extractLsb' 0 8) := by
  apply BitVec.eq_of_toNat_eq
  rw [busEventWord_toNat]
  have := op.isLt
  have h' := congrArg BitVec.toNat h
  have h2 := congrArg BitVec.toNat h0
  simp [Nat.shiftRight_eq_div_pow] at h' h2 ⊢
  omega

theorem eq_tickWord {op : OpWord} (h : op.extractLsb' 40 4 = 3#4) (h0 : op.extractLsb' 0 40 = 0#40) : op = tickWord := by
  apply BitVec.eq_of_toNat_eq
  have := op.isLt
  have h' := congrArg BitVec.toNat h
  have h2 := congrArg BitVec.toNat h0
  rw [show tickWord = 0x30000000000#44 from rfl]
  simp [Nat.shiftRight_eq_div_pow] at h' h2 ⊢
  omega

theorem eq_resetWord {op : OpWord} (h : op.extractLsb' 40 4 = 5#4) (h0 : op.extractLsb' 0 40 = 0#40) : op = resetWord := by
  apply BitVec.eq_of_toNat_eq
  have := op.isLt
  have h' := congrArg BitVec.toNat h
  have h2 := congrArg BitVec.toNat h0
  rw [show resetWord = 0x50000000000#44 from rfl]
  simp [Nat.shiftRight_eq_div_pow] at h' h2 ⊢
  omega

/-- OFF is OFF[7:2] and OFF[1:0]. -/
theorem off_split (op : OpWord) : op.extractLsb' 32 8 = op.extractLsb' 34 6 ++ op.extractLsb' 32 2 := by
  apply BitVec.eq_of_toNat_eq
  erw [toNat_concat]
  simp [Nat.shiftRight_eq_div_pow]; omega

/-- DATA is DATA[31:3] and the command bits. -/
theorem data_split {d : Word} {c : BitVec 3} (h : d.extractLsb' 0 3 = c) : d.extractLsb' 3 29 ++ c = d := by
  subst h
  apply BitVec.eq_of_toNat_eq
  erw [toNat_concat]
  have := d.isLt
  simp [Nat.shiftRight_eq_div_pow]; omega

/-- PAY of an ADDR word is A7 and RW. -/
theorem payload_split : ∀ pay : Byte, pay.extractLsb' 1 7 ++ BitVec.ofBool (pay.getLsbD 0) = pay := by decide

/-- A host write at 0x40 or above. -/
theorem decodeHostWrite_unmapped {reg : BitVec 6} (lo : BitVec 2) (data : Word) (h : 16 ≤ reg.toNat) :
    decodeHostWrite (reg ++ lo) data =
      if reg.toNat < 32 then .hwUnmapped40 ((reg ++ lo).extractLsb' 0 6) data
      else .hwUnmapped80 ((reg ++ lo).extractLsb' 0 7) data := by
  unfold decodeHostWrite
  rw [off_reg]
  split <;> first | omega | rfl

/-- A host read at 0x40 or above. -/
theorem decodeHostRead_unmapped {reg : BitVec 6} (lo : BitVec 2) (h : 16 ≤ reg.toNat) :
    decodeHostRead (reg ++ lo) =
      if reg.toNat < 32 then .hrUnmapped40 ((reg ++ lo).extractLsb' 0 6) else .hrUnmapped80 ((reg ++ lo).extractLsb' 0 7) := by
  unfold decodeHostRead
  rw [off_reg]
  split <;> first | omega | rfl

/-- The offset of an unmapped word, from the two fields its encoding splits it into. -/
theorem unmapped40_off (off : BitVec 6) :
    BitVec.extractLsb' 0 6 ((0b01#2 ++ off.extractLsb' 2 4) ++ off.extractLsb' 0 2 : BitVec 8) = off := by
  apply BitVec.eq_of_toNat_eq
  simp only [BitVec.extractLsb'_toNat]
  erw [toNat_concat, toNat_concat]
  have := off.isLt
  simp [Nat.shiftRight_eq_div_pow]; omega

theorem unmapped80_off (off : BitVec 7) :
    BitVec.extractLsb' 0 7 ((0b1#1 ++ off.extractLsb' 2 5) ++ off.extractLsb' 0 2 : BitVec 8) = off := by
  apply BitVec.eq_of_toNat_eq
  simp only [BitVec.extractLsb'_toNat]
  erw [toNat_concat, toNat_concat]
  have := off.isLt
  simp [Nat.shiftRight_eq_div_pow]; omega

end Sys2Proof.Machine
end

