-- ==== Sys2Proof/Laws/State.lean ====
section
/-! SUPPORT. What each named update of the state does to each field: one lemma per field per update, true by rfl. -/

namespace Sys2Proof.Machine

variable (s : State)

@[simp] theorem takeEvent_seq (rest : List OpWord) : (s.takeEvent rest).seq = s.seq := rfl
@[simp] theorem takeEvent_ldr (rest : List OpWord) : (s.takeEvent rest).ldr = s.ldr := rfl
@[simp] theorem takeEvent_reading (rest : List OpWord) : (s.takeEvent rest).reading = s.reading := rfl
@[simp] theorem takeEvent_slv (rest : List OpWord) : (s.takeEvent rest).slv = s.slv := rfl
@[simp] theorem takeEvent_cfg (rest : List OpWord) : (s.takeEvent rest).cfg = s.cfg := rfl
@[simp] theorem takeEvent_params (rest : List OpWord) : (s.takeEvent rest).params = s.params := rfl
@[simp] theorem takeEvent_env (rest : List OpWord) : (s.takeEvent rest).env = { s.env with events := rest } := rfl
@[simp] theorem takeEvent_ports (rest : List OpWord) : (s.takeEvent rest).ports = {} := rfl

@[simp] theorem hostAnswer_seq (v : Word) : (s.hostAnswer v).seq = s.seq := rfl
@[simp] theorem hostAnswer_ldr (v : Word) : (s.hostAnswer v).ldr = s.ldr := rfl
@[simp] theorem hostAnswer_reading (v : Word) : (s.hostAnswer v).reading = s.reading := rfl
@[simp] theorem hostAnswer_slv (v : Word) : (s.hostAnswer v).slv = s.slv := rfl
@[simp] theorem hostAnswer_cfg (v : Word) : (s.hostAnswer v).cfg = s.cfg := rfl
@[simp] theorem hostAnswer_params (v : Word) : (s.hostAnswer v).params = s.params := rfl
@[simp] theorem hostAnswer_env (v : Word) : (s.hostAnswer v).env = s.env := rfl
@[simp] theorem hostAnswer_ports (v : Word) : (s.hostAnswer v).ports = { s.ports with hostData := some v } := rfl

@[simp] theorem busAnswer_seq (a : BusAnswer) : (s.busAnswer a).seq = s.seq := rfl
@[simp] theorem busAnswer_ldr (a : BusAnswer) : (s.busAnswer a).ldr = s.ldr := rfl
@[simp] theorem busAnswer_reading (a : BusAnswer) : (s.busAnswer a).reading = s.reading := rfl
@[simp] theorem busAnswer_slv (a : BusAnswer) : (s.busAnswer a).slv = s.slv := rfl
@[simp] theorem busAnswer_cfg (a : BusAnswer) : (s.busAnswer a).cfg = s.cfg := rfl
@[simp] theorem busAnswer_params (a : BusAnswer) : (s.busAnswer a).params = s.params := rfl
@[simp] theorem busAnswer_env (a : BusAnswer) : (s.busAnswer a).env = s.env := rfl
@[simp] theorem busAnswer_ports (a : BusAnswer) : (s.busAnswer a).ports = { s.ports with busAnswer := some a } := rfl

@[simp] theorem sensorCall_seq (c : SensorCall) : (s.sensorCall c).seq = s.seq := rfl
@[simp] theorem sensorCall_ldr (c : SensorCall) : (s.sensorCall c).ldr = s.ldr := rfl
@[simp] theorem sensorCall_reading (c : SensorCall) : (s.sensorCall c).reading = s.reading := rfl
@[simp] theorem sensorCall_slv (c : SensorCall) : (s.sensorCall c).slv = s.slv := rfl
@[simp] theorem sensorCall_cfg (c : SensorCall) : (s.sensorCall c).cfg = s.cfg := rfl
@[simp] theorem sensorCall_params (c : SensorCall) : (s.sensorCall c).params = s.params := rfl
@[simp] theorem sensorCall_env (c : SensorCall) : (s.sensorCall c).env = s.env := rfl
@[simp] theorem sensorCall_ports (c : SensorCall) : (s.sensorCall c).ports = { s.ports with sensorCalls := s.ports.sensorCalls ++ [c] } := rfl

@[simp] theorem seqError_seq (code : BitVec 4) : (s.seqError code).seq = { s.seq with state := .error, waitCnt := 0, lastFailState := code } := rfl
@[simp] theorem seqError_ldr (code : BitVec 4) : (s.seqError code).ldr = s.ldr := rfl
@[simp] theorem seqError_reading (code : BitVec 4) : (s.seqError code).reading = { s.reading with valid := false } := rfl
@[simp] theorem seqError_slv (code : BitVec 4) : (s.seqError code).slv = s.slv := rfl
@[simp] theorem seqError_cfg (code : BitVec 4) : (s.seqError code).cfg = s.cfg := rfl
@[simp] theorem seqError_params (code : BitVec 4) : (s.seqError code).params = s.params := rfl
@[simp] theorem seqError_env (code : BitVec 4) : (s.seqError code).env = s.env := rfl
@[simp] theorem seqError_ports (code : BitVec 4) : (s.seqError code).ports = s.ports := rfl

@[simp] theorem seqRetry_seq : s.seqRetry.seq = { s.seq with state := .startP, waitCnt := 0 } := rfl
@[simp] theorem seqRetry_ldr : s.seqRetry.ldr = s.ldr := rfl
@[simp] theorem seqRetry_reading : s.seqRetry.reading = s.reading := rfl
@[simp] theorem seqRetry_slv : s.seqRetry.slv = s.slv := rfl
@[simp] theorem seqRetry_cfg : s.seqRetry.cfg = s.cfg := rfl
@[simp] theorem seqRetry_params : s.seqRetry.params = s.params := rfl
@[simp] theorem seqRetry_env : s.seqRetry.env = s.env := rfl
@[simp] theorem seqRetry_ports : s.seqRetry.ports = s.ports := rfl

@[simp] theorem endTransfer_seq : s.endTransfer.seq = s.seq := rfl
@[simp] theorem endTransfer_ldr : s.endTransfer.ldr = s.ldr := rfl
@[simp] theorem endTransfer_reading : s.endTransfer.reading = s.reading := rfl
@[simp] theorem endTransfer_slv : s.endTransfer.slv = { s.slv with dir := .none, bcnt := 0#3 } := rfl
@[simp] theorem endTransfer_cfg : s.endTransfer.cfg = s.cfg := rfl
@[simp] theorem endTransfer_params : s.endTransfer.params = s.params := rfl
@[simp] theorem endTransfer_env : s.endTransfer.env = s.env := rfl
@[simp] theorem endTransfer_ports : s.endTransfer.ports = s.ports := rfl

@[simp] theorem loadFailed_seq : s.loadFailed.seq = s.seq := rfl
@[simp] theorem loadFailed_ldr : s.loadFailed.ldr = { s.ldr with calErr := true, calBusy := false, phase := .lIdle } := rfl
@[simp] theorem loadFailed_reading : s.loadFailed.reading = s.reading := rfl
@[simp] theorem loadFailed_slv : s.loadFailed.slv = s.slv := rfl
@[simp] theorem loadFailed_cfg : s.loadFailed.cfg = s.cfg := rfl
@[simp] theorem loadFailed_params : s.loadFailed.params = s.params := rfl
@[simp] theorem loadFailed_env : s.loadFailed.env = s.env := rfl
@[simp] theorem loadFailed_ports : s.loadFailed.ports = s.ports := rfl

@[simp] theorem withFetchWord_seq (n w : Nat) : (s.withFetchWord n w).seq = s.seq := rfl
@[simp] theorem withFetchWord_ldr (n w : Nat) : (s.withFetchWord n w).ldr = s.ldr := rfl
@[simp] theorem withFetchWord_reading (n w : Nat) : (s.withFetchWord n w).reading = s.reading := rfl
@[simp] theorem withFetchWord_slv (n w : Nat) : (s.withFetchWord n w).slv = s.slv := rfl
@[simp] theorem withFetchWord_cfg (n w : Nat) : (s.withFetchWord n w).cfg = s.cfg := rfl
@[simp] theorem withFetchWord_params (n w : Nat) : (s.withFetchWord n w).params = s.params := rfl
@[simp] theorem withFetchWord_env (n w : Nat) : (s.withFetchWord n w).env = { s.env with events := (opWordOf n w).getD 0#44 :: s.env.events } := rfl
@[simp] theorem withFetchWord_ports (n w : Nat) : (s.withFetchWord n w).ports = s.ports := rfl

@[simp] theorem seqStop_seq : (seqStop s).seq = { s.seq with state := .idle, waitCnt := 0 } := rfl
@[simp] theorem seqStop_ldr : (seqStop s).ldr = s.ldr := rfl
@[simp] theorem seqStop_reading : (seqStop s).reading = s.reading := rfl
@[simp] theorem seqStop_slv : (seqStop s).slv = s.slv := rfl
@[simp] theorem seqStop_cfg : (seqStop s).cfg = s.cfg := rfl
@[simp] theorem seqStop_params : (seqStop s).params = s.params := rfl
@[simp] theorem seqStop_env : (seqStop s).env = s.env := rfl
@[simp] theorem seqStop_ports : (seqStop s).ports = s.ports := rfl

@[simp] theorem seqStart_seq : (seqStart s).seq = { s.seq with state := .startP, waitCnt := 0 } := rfl
@[simp] theorem seqStart_ldr : (seqStart s).ldr = s.ldr := rfl
@[simp] theorem seqStart_reading : (seqStart s).reading = s.reading := rfl
@[simp] theorem seqStart_slv : (seqStart s).slv = s.slv := rfl
@[simp] theorem seqStart_cfg : (seqStart s).cfg = s.cfg := rfl
@[simp] theorem seqStart_params : (seqStart s).params = s.params := rfl
@[simp] theorem seqStart_env : (seqStart s).env = s.env := rfl
@[simp] theorem seqStart_ports : (seqStart s).ports = s.ports := rfl

@[simp] theorem calLoad_seq : (calLoad s).seq = s.seq := rfl
@[simp] theorem calLoad_ldr : (calLoad s).ldr = { s.ldr with calBusy := true, calErr := false, phase := .lReset, cnt := 0#8 } := rfl
@[simp] theorem calLoad_reading : (calLoad s).reading = s.reading := rfl
@[simp] theorem calLoad_slv : (calLoad s).slv = s.slv := rfl
@[simp] theorem calLoad_cfg : (calLoad s).cfg = s.cfg := rfl
@[simp] theorem calLoad_params : (calLoad s).params = s.params := rfl
@[simp] theorem calLoad_env : (calLoad s).env = s.env := rfl
@[simp] theorem calLoad_ports : (calLoad s).ports = s.ports := rfl

@[simp] theorem setCmdRej_seq (rej : Bool) : (setCmdRej rej s).seq = s.seq := rfl
@[simp] theorem setCmdRej_ldr (rej : Bool) : (setCmdRej rej s).ldr = s.ldr := rfl
@[simp] theorem setCmdRej_reading (rej : Bool) : (setCmdRej rej s).reading = s.reading := rfl
@[simp] theorem setCmdRej_slv (rej : Bool) : (setCmdRej rej s).slv = s.slv := rfl
@[simp] theorem setCmdRej_cfg (rej : Bool) : (setCmdRej rej s).cfg = { s.cfg with cmdRej := rej } := rfl
@[simp] theorem setCmdRej_params (rej : Bool) : (setCmdRej rej s).params = s.params := rfl
@[simp] theorem setCmdRej_env (rej : Bool) : (setCmdRej rej s).env = s.env := rfl
@[simp] theorem setCmdRej_ports (rej : Bool) : (setCmdRej rej s).ports = s.ports := rfl

@[simp] theorem dropTransfer_seq : s.dropTransfer.seq = s.seq := by
  unfold State.dropTransfer; split <;> rfl
@[simp] theorem dropTransfer_ldr : s.dropTransfer.ldr = s.ldr := by
  unfold State.dropTransfer; split <;> rfl
@[simp] theorem dropTransfer_reading : s.dropTransfer.reading = s.reading := by
  unfold State.dropTransfer; split <;> rfl
@[simp] theorem dropTransfer_slv :
    s.dropTransfer.slv = if s.slv.dir = .none then s.slv else { s.slv with dir := .none, bcnt := 0#3 } := by
  unfold State.dropTransfer; split <;> rfl
@[simp] theorem dropTransfer_cfg : s.dropTransfer.cfg = s.cfg := by
  unfold State.dropTransfer; split <;> rfl
@[simp] theorem dropTransfer_params : s.dropTransfer.params = s.params := by
  unfold State.dropTransfer; split <;> rfl
@[simp] theorem dropTransfer_env : s.dropTransfer.env = s.env := by
  unfold State.dropTransfer; split <;> rfl
@[simp] theorem dropTransfer_ports : s.dropTransfer.ports = s.ports := by
  unfold State.dropTransfer; split <;> rfl

/-- Two states that agree on every field are one state. -/
theorem state_eq {s t : State} (hseq : s.seq = t.seq) (hldr : s.ldr = t.ldr) (hreading : s.reading = t.reading)
    (hslv : s.slv = t.slv) (hcfg : s.cfg = t.cfg) (hparams : s.params = t.params) (henv : s.env = t.env)
    (hports : s.ports = t.ports) : s = t := by
  cases s; cases t; simp_all

end Sys2Proof.Machine
end

