-- ==== Sys2Proof/Laws/Draws.lean ====
section
/-! SUPPORT. The sensor transport: what its calls answer and what they leave. Every lemma speaks of the answers by number
(`Env.answerAt`), whether they were ready or are free values. -/

namespace Sys2Proof.Machine

open Config

/-- The state after sensor calls: one answer used up for each, and the calls given out. Nothing else changes. -/
def State.called (s : State) (calls : List SensorCall) : State :=
  { s with
    env := s.env.afterAnswers calls.length
    ports := { s.ports with sensorCalls := s.ports.sensorCalls ++ calls } }

section
variable (s : State) (calls : List SensorCall)

@[simp] theorem called_seq : (s.called calls).seq = s.seq := rfl
@[simp] theorem called_ldr : (s.called calls).ldr = s.ldr := rfl
@[simp] theorem called_reading : (s.called calls).reading = s.reading := rfl
@[simp] theorem called_slv : (s.called calls).slv = s.slv := rfl
@[simp] theorem called_cfg : (s.called calls).cfg = s.cfg := rfl
@[simp] theorem called_params : (s.called calls).params = s.params := rfl
@[simp] theorem called_env : (s.called calls).env = s.env.afterAnswers calls.length := rfl
@[simp] theorem called_hostData : (s.called calls).ports.hostData = s.ports.hostData := rfl
@[simp] theorem called_busAnswer : (s.called calls).ports.busAnswer = s.ports.busAnswer := rfl
@[simp] theorem called_sensorCalls : (s.called calls).ports.sensorCalls = s.ports.sensorCalls ++ calls := rfl

end

@[simp] theorem afterAnswers_events (e : Env) (n : Nat) : (e.afterAnswers n).events = e.events := rfl

@[simp] theorem afterAnswers_zero (e : Env) : e.afterAnswers 0 = e := by simp [Env.afterAnswers]

/-- Using up `n` answers and then `m` is using up `n + m`. -/
@[simp] theorem afterAnswers_afterAnswers (e : Env) (n m : Nat) :
    (e.afterAnswers n).afterAnswers m = e.afterAnswers (n + m) := by
  simp only [Env.afterAnswers, List.drop_drop, List.length_drop, Env.mk.injEq, true_and]
  omega

/-- After `n` answers the m-th to come is the one that was `n + m`. -/
@[simp] theorem answerAt_afterAnswers (e : Env) (n m : Nat) : (e.afterAnswers n).answerAt m = e.answerAt (n + m) := by
  simp only [Env.answerAt, Env.afterAnswers, List.getElem?_drop, List.length_drop]
  cases h : e.answers[n + m]? with
  | some a => rfl
  | none =>
    have := List.getElem?_eq_none_iff.1 h
    simp only
    congr 1
    omega

/-- The answers to come do not depend on the events to come. -/
@[simp] theorem answerAt_events (e : Env) (ops : List OpWord) (n : Nat) :
    Env.answerAt { e with events := ops } n = e.answerAt n := rfl

@[simp] theorem called_called (s : State) (c1 c2 : List SensorCall) : (s.called c1).called c2 = s.called (c1 ++ c2) := by
  simp [State.called]

/-- A draw is the next answer, and uses it up. -/
theorem drawAnswer_eq (s : State) : s.drawAnswer = (s.env.answerAt 0, { s with env := s.env.afterAnswers 1 }) := by
  unfold State.drawAnswer Env.answerAt Env.afterAnswers
  cases h : s.env.answers <;> simp [h]

/-- `SensorWrite` (R15). -/
theorem sensorWrite_eq (cmd : Byte) (s : State) :
    sensorWrite cmd s = (if s.env.answerAt 0 = .fail then none else some (), s.called [.write cmd]) := by
  unfold sensorWrite
  rw [drawAnswer_eq]
  cases h : s.env.answerAt 0 <;> simp [h, State.called, State.sensorCall]

/-- The bytes of an answer, zero for a failure. -/
def answerBytes (a : SensorAnswer) : SensorBytes :=
  match a with
  | .ok b0 b1 b2 => ⟨b0, b1, b2⟩
  | .fail => ⟨0#8, 0#8, 0#8⟩

/-- `SensorRead` (R15). -/
theorem sensorRead_eq (n : Nat) (s : State) :
    sensorRead n s =
      (if s.env.answerAt 0 = .fail then none else some (answerBytes (s.env.answerAt 0)), s.called [.read n]) := by
  unfold sensorRead
  rw [drawAnswer_eq]
  cases h : s.env.answerAt 0 <;> simp [h, State.called, State.sensorCall, answerBytes]

/-- A command and the read of its answer: the read is issued only after a write that succeeded (R160, R316). -/
theorem writeThenRead_eq {α : Type} (cmd : Byte) (n : Nat) (f : SensorBytes → State → α) (s : State) :
    ((sensorWrite cmd s).andThen fun _ s1 => (sensorRead n s1).andThen fun q s2 => (some (f q s2), s2)) =
      if s.env.answerAt 0 = .fail then (none, s.called [.write cmd])
      else if s.env.answerAt 1 = .fail then (none, s.called [.write cmd, .read n])
      else (some (f (answerBytes (s.env.answerAt 1)) (s.called [.write cmd, .read n])), s.called [.write cmd, .read n]) := by
  rw [sensorWrite_eq]
  by_cases h0 : s.env.answerAt 0 = .fail
  · simp [h0, Drawn.andThen]
  · by_cases h1 : s.env.answerAt 1 = .fail <;> simp [h0, h1, Drawn.andThen, sensorRead_eq]

/-- The 24-bit read of an ADC code (R153, R156). -/
theorem readAdc_eq (s : State) :
    readAdc s =
      if s.env.answerAt 0 = .fail then (none, s.called [.write s.params.cmdAdcRead])
      else if s.env.answerAt 1 = .fail then (none, s.called [.write s.params.cmdAdcRead, .read 3])
      else (some (adcCode (answerBytes (s.env.answerAt 1))), s.called [.write s.params.cmdAdcRead, .read 3]) :=
  writeThenRead_eq s.params.cmdAdcRead 3 (fun q _ => adcCode q) s

/-- The read of one PROM word (R173, R174). -/
theorem readPromWord_eq (cmd : Byte) (s : State) :
    readPromWord cmd s =
      if s.env.answerAt 0 = .fail then (none, s.called [.write cmd])
      else if s.env.answerAt 1 = .fail then (none, s.called [.write cmd, .read 2])
      else (some (promWord s.params.promWordOrder (answerBytes (s.env.answerAt 1))), s.called [.write cmd, .read 2]) :=
  writeThenRead_eq cmd 2 (fun q s2 => promWord s2.params.promWordOrder q) s

/-- After the calls so far, go on if they gave a result. -/
@[simp] theorem andThen_some {α β : Type} (a : α) (s : State) (f : α → State → Drawn β) :
    Drawn.andThen (some a, s) f = f a s := rfl

@[simp] theorem andThen_none {α β : Type} (s : State) (f : α → State → Drawn β) :
    Drawn.andThen (none, s) f = (none, s) := rfl

/-- One PROM word, and what follows it. -/
theorem readPromWord_andThen {β : Type} (cmd : Byte) (s : State) (f : Half → State → Drawn β) :
    (readPromWord cmd s).andThen f =
      if s.env.answerAt 0 = .fail then (none, s.called [.write cmd])
      else if s.env.answerAt 1 = .fail then (none, s.called [.write cmd, .read 2])
      else f (promWord s.params.promWordOrder (answerBytes (s.env.answerAt 1))) (s.called [.write cmd, .read 2]) := by
  rw [readPromWord_eq]
  split
  · rfl
  · split <;> rfl

/-- Calls followed by calls are calls. -/
theorem andThen_called {α β : Type} {s : State} {r : Drawn α} {f : α → State → Drawn β}
    (hr : ∃ calls, r.2 = s.called calls) (hf : ∀ a t, ∃ calls, (f a t).2 = t.called calls) :
    ∃ calls, (r.andThen f).2 = s.called calls := by
  obtain ⟨c1, h1⟩ := hr
  obtain ⟨a | a, t⟩ := r
  · exact ⟨c1, h1⟩
  · obtain ⟨c2, h2⟩ := hf a t
    refine ⟨c1 ++ c2, ?_⟩
    have ht : t = s.called c1 := h1
    rw [andThen_some, h2, ht, called_called]

theorem readPromWord_called (cmd : Byte) (s : State) : ∃ calls, (readPromWord cmd s).2 = s.called calls := by
  rw [readPromWord_eq]
  split
  · exact ⟨_, rfl⟩
  · split <;> exact ⟨_, rfl⟩

/-- Whatever the answers, reading the PROM only makes calls (R174). -/
theorem readProm_called (s : State) : ∃ calls, (readProm s).2 = s.called calls := by
  unfold readProm
  refine andThen_called (readPromWord_called _ _) fun _ _ => ?_
  refine andThen_called (readPromWord_called _ _) fun _ _ => ?_
  refine andThen_called (readPromWord_called _ _) fun _ _ => ?_
  refine andThen_called (readPromWord_called _ _) fun _ _ => ?_
  refine andThen_called (readPromWord_called _ _) fun _ _ => ?_
  refine andThen_called (readPromWord_called _ _) fun _ _ => ?_
  exact andThen_called (readPromWord_called _ _) fun _ t => ⟨[], by simp [State.called]⟩

/-- Whatever the answers, reading an ADC code only makes calls (R153, R156). -/
theorem readAdc_called (s : State) : ∃ calls, (readAdc s).2 = s.called calls := by
  rw [readAdc_eq]
  split
  · exact ⟨_, rfl⟩
  · split <;> exact ⟨_, rfl⟩

end Sys2Proof.Machine
end

