-- ==== Sys2Proof/Laws/PerInstr.lean ====
section
/-! SUPPORT. Per instruction: the encoder's word fits the instruction's row of spec/opcode_table.json, for every value of
the operands. -/

namespace Sys2Proof.Laws.RowWord

open Sys2Proof.Machine

/-- The word of the instruction has the bits its row of the opcode table fixes. -/
def Statement (i : Instr) : Prop := encode i &&& (tableRow i).mask = (tableRow i).pattern

/-- An HW word's fixed bits are K and OFF[7:2]. -/
theorem hostWrite_fixed (reg : BitVec 6) (lo : BitVec 2) (data : Word) :
    hostWriteWord reg lo data &&& 0xFFC00000000#44 = hostWriteWord reg 0#2 0#32 := by
  have h : reg &&& 63#6 = reg := BitVec.and_allOnes
  rw [show 0xFFC00000000#44 = 0xF#4 ++ 63#6 ++ 0#2 ++ 0#32 from rfl, hostWriteWord, hostWriteWord, BitVec.and_append,
    BitVec.and_append, BitVec.and_append, h, BitVec.and_zero, BitVec.and_zero]
  rfl

/-- A CMD word with one command: that bit is fixed too. -/
theorem command_fixed (lo : BitVec 2) (rsv : BitVec 29) (cmd mask : BitVec 3) :
    hostWriteWord 0#6 lo (rsv ++ cmd) &&& (0xF#4 ++ 63#6 ++ 0#2 ++ (0#29 ++ mask)) =
      hostWriteWord 0#6 0#2 (0#29 ++ (cmd &&& mask)) := by
  rw [hostWriteWord, hostWriteWord, BitVec.and_append, BitVec.and_append, BitVec.and_append, BitVec.and_append,
    BitVec.and_zero, BitVec.and_zero]
  rfl

/-- An HR word's fixed bits are K, OFF[7:2] and the zeros. -/
theorem hostRead_fixed (reg : BitVec 6) (lo : BitVec 2) :
    hostReadWord reg lo &&& 0xFFCFFFFFFFF#44 = hostReadWord reg 0#2 := by
  have h : reg &&& 63#6 = reg := BitVec.and_allOnes
  rw [show 0xFFCFFFFFFFF#44 = 0xF#4 ++ 63#6 ++ 0#2 ++ 0xFFFFFFFF#32 from rfl, hostReadWord, hostReadWord,
    BitVec.and_append, BitVec.and_append, BitVec.and_append, h, BitVec.and_zero]
  rfl

/-- A BE word with a payload: K, EV and the zeros are fixed, and the payload bits of `mask`. -/
theorem busEvent_fixed (ev : BitVec 4) (pay mask : Byte) :
    busEventWord ev pay &&& (0xF#4 ++ 0xF#4 ++ 0xFFFFFFF#28 ++ mask) = busEventWord ev (pay &&& mask) := by
  have h : ev &&& 15#4 = ev := BitVec.and_allOnes
  rw [busEventWord, busEventWord, BitVec.and_append, BitVec.and_append, BitVec.and_append, h]
  rfl

theorem hwCmd (lo : BitVec 2) (data : Word) : Statement (.hwCmd lo data) := hostWrite_fixed 0#6 lo data
theorem hwCmdSeqStop (lo : BitVec 2) (rsv : BitVec 29) : Statement (.hwCmdSeqStop lo rsv) :=
  command_fixed lo rsv 2#3 2#3

theorem hwCmdSeqStart (lo : BitVec 2) (rsv : BitVec 29) : Statement (.hwCmdSeqStart lo rsv) :=
  command_fixed lo rsv 1#3 1#3

theorem hwCmdCalLoad (lo : BitVec 2) (rsv : BitVec 29) : Statement (.hwCmdCalLoad lo rsv) :=
  command_fixed lo rsv 4#3 4#3

theorem hwCfg (lo : BitVec 2) (data : Word) : Statement (.hwCfg lo data) := hostWrite_fixed 1#6 lo data
theorem hwStatus (lo : BitVec 2) (data : Word) : Statement (.hwStatus lo data) := hostWrite_fixed 2#6 lo data
theorem hwPressure (lo : BitVec 2) (data : Word) : Statement (.hwPressure lo data) := hostWrite_fixed 3#6 lo data
theorem hwTemperature (lo : BitVec 2) (data : Word) : Statement (.hwTemperature lo data) :=
  hostWrite_fixed 4#6 lo data

theorem hwRawD1 (lo : BitVec 2) (data : Word) : Statement (.hwRawD1 lo data) := hostWrite_fixed 5#6 lo data
theorem hwRawD2 (lo : BitVec 2) (data : Word) : Statement (.hwRawD2 lo data) := hostWrite_fixed 6#6 lo data
theorem hwTxHold (lo : BitVec 2) (data : Word) : Statement (.hwTxHold lo data) := hostWrite_fixed 7#6 lo data
theorem hwRxData (lo : BitVec 2) (data : Word) : Statement (.hwRxData lo data) := hostWrite_fixed 8#6 lo data
theorem hwCal0 (lo : BitVec 2) (data : Word) : Statement (.hwCal0 lo data) := hostWrite_fixed 9#6 lo data
theorem hwCal1 (lo : BitVec 2) (data : Word) : Statement (.hwCal1 lo data) := hostWrite_fixed 10#6 lo data
theorem hwCal2 (lo : BitVec 2) (data : Word) : Statement (.hwCal2 lo data) := hostWrite_fixed 11#6 lo data
theorem hwCal3 (lo : BitVec 2) (data : Word) : Statement (.hwCal3 lo data) := hostWrite_fixed 12#6 lo data
theorem hwCal4 (lo : BitVec 2) (data : Word) : Statement (.hwCal4 lo data) := hostWrite_fixed 13#6 lo data
theorem hwCal5 (lo : BitVec 2) (data : Word) : Statement (.hwCal5 lo data) := hostWrite_fixed 14#6 lo data
theorem hwCal6 (lo : BitVec 2) (data : Word) : Statement (.hwCal6 lo data) := hostWrite_fixed 15#6 lo data
theorem hwUnmapped40 (off : BitVec 6) (data : Word) : Statement (.hwUnmapped40 off data) := by
  show (0x1#4 ++ (0b01#2 ++ off.extractLsb' 2 4) ++ off.extractLsb' 0 2 ++ data) &&&
    (0xF#4 ++ (0b11#2 ++ 0#4) ++ 0#2 ++ 0#32) = _
  rw [BitVec.and_append, BitVec.and_append, BitVec.and_append, BitVec.and_append, BitVec.and_zero, BitVec.and_zero,
    BitVec.and_zero]
  rfl

theorem hwUnmapped80 (off : BitVec 7) (data : Word) : Statement (.hwUnmapped80 off data) := by
  show (0x1#4 ++ (0b1#1 ++ off.extractLsb' 2 5) ++ off.extractLsb' 0 2 ++ data) &&&
    (0xF#4 ++ (0b1#1 ++ 0#5) ++ 0#2 ++ 0#32) = _
  rw [BitVec.and_append, BitVec.and_append, BitVec.and_append, BitVec.and_append, BitVec.and_zero, BitVec.and_zero,
    BitVec.and_zero]
  rfl

theorem hrCmd (lo : BitVec 2) : Statement (.hrCmd lo) := hostRead_fixed 0#6 lo
theorem hrCfg (lo : BitVec 2) : Statement (.hrCfg lo) := hostRead_fixed 1#6 lo
theorem hrStatus (lo : BitVec 2) : Statement (.hrStatus lo) := hostRead_fixed 2#6 lo
theorem hrPressure (lo : BitVec 2) : Statement (.hrPressure lo) := hostRead_fixed 3#6 lo
theorem hrTemperature (lo : BitVec 2) : Statement (.hrTemperature lo) := hostRead_fixed 4#6 lo
theorem hrRawD1 (lo : BitVec 2) : Statement (.hrRawD1 lo) := hostRead_fixed 5#6 lo
theorem hrRawD2 (lo : BitVec 2) : Statement (.hrRawD2 lo) := hostRead_fixed 6#6 lo
theorem hrTxHold (lo : BitVec 2) : Statement (.hrTxHold lo) := hostRead_fixed 7#6 lo
theorem hrRxData (lo : BitVec 2) : Statement (.hrRxData lo) := hostRead_fixed 8#6 lo
theorem hrCal0 (lo : BitVec 2) : Statement (.hrCal0 lo) := hostRead_fixed 9#6 lo
theorem hrCal1 (lo : BitVec 2) : Statement (.hrCal1 lo) := hostRead_fixed 10#6 lo
theorem hrCal2 (lo : BitVec 2) : Statement (.hrCal2 lo) := hostRead_fixed 11#6 lo
theorem hrCal3 (lo : BitVec 2) : Statement (.hrCal3 lo) := hostRead_fixed 12#6 lo
theorem hrCal4 (lo : BitVec 2) : Statement (.hrCal4 lo) := hostRead_fixed 13#6 lo
theorem hrCal5 (lo : BitVec 2) : Statement (.hrCal5 lo) := hostRead_fixed 14#6 lo
theorem hrCal6 (lo : BitVec 2) : Statement (.hrCal6 lo) := hostRead_fixed 15#6 lo
theorem hrUnmapped40 (off : BitVec 6) : Statement (.hrUnmapped40 off) := by
  show (0x2#4 ++ (0b01#2 ++ off.extractLsb' 2 4) ++ off.extractLsb' 0 2 ++ 0#32) &&&
    (0xF#4 ++ (0b11#2 ++ 0#4) ++ 0#2 ++ 0xFFFFFFFF#32) = _
  rw [BitVec.and_append, BitVec.and_append, BitVec.and_append, BitVec.and_append, BitVec.and_zero, BitVec.and_zero]
  rfl

theorem hrUnmapped80 (off : BitVec 7) : Statement (.hrUnmapped80 off) := by
  show (0x2#4 ++ (0b1#1 ++ off.extractLsb' 2 5) ++ off.extractLsb' 0 2 ++ 0#32) &&&
    (0xF#4 ++ (0b1#1 ++ 0#5) ++ 0#2 ++ 0xFFFFFFFF#32) = _
  rw [BitVec.and_append, BitVec.and_append, BitVec.and_append, BitVec.and_append, BitVec.and_zero, BitVec.and_zero]
  rfl

theorem tick : Statement (.tick) := rfl
theorem tickLIdle : Statement (.tickLIdle) := rfl
theorem tickLReset : Statement (.tickLReset) := rfl
theorem tickLWait : Statement (.tickLWait) := rfl
theorem tickLProm : Statement (.tickLProm) := rfl
theorem tickIdle : Statement (.tickIdle) := rfl
theorem tickStartP : Statement (.tickStartP) := rfl
theorem tickWaitP : Statement (.tickWaitP) := rfl
theorem tickReadP : Statement (.tickReadP) := rfl
theorem tickStartT : Statement (.tickStartT) := rfl
theorem tickWaitT : Statement (.tickWaitT) := rfl
theorem tickReadT : Statement (.tickReadT) := rfl
theorem tickCalc : Statement (.tickCalc) := rfl
theorem tickError : Statement (.tickError) := rfl
theorem busAddrWMatch (a7 : BitVec 7) : Statement (.busAddrWMatch a7) := by
  refine (busEvent_fixed 0x0#4 (a7 ++ 0#1) (0#7 ++ 1#1)).trans ?_
  rw [BitVec.and_append, BitVec.and_zero]
  rfl

theorem busAddrRMatch (a7 : BitVec 7) : Statement (.busAddrRMatch a7) := by
  refine (busEvent_fixed 0x0#4 (a7 ++ 1#1) (0#7 ++ 1#1)).trans ?_
  rw [BitVec.and_append, BitVec.and_zero]
  rfl

theorem busAddrNomatch (a7 : BitVec 7) (rw : Bool) : Statement (.busAddrNomatch a7 rw) := by
  refine (busEvent_fixed 0x0#4 (a7 ++ BitVec.ofBool rw) 0#8).trans ?_
  rw [BitVec.and_zero]
  rfl

theorem busWbRx (b : Byte) : Statement (.busWbRx b) := by
  refine (busEvent_fixed 0x1#4 b 0#8).trans ?_
  rw [BitVec.and_zero]
  rfl

theorem busWbRxLast (b : Byte) : Statement (.busWbRxLast b) := by
  refine (busEvent_fixed 0x1#4 b 0#8).trans ?_
  rw [BitVec.and_zero]
  rfl

theorem busWbNone (b : Byte) : Statement (.busWbNone b) := by
  refine (busEvent_fixed 0x1#4 b 0#8).trans ?_
  rw [BitVec.and_zero]
  rfl

theorem busWbTx (b : Byte) : Statement (.busWbTx b) := by
  refine (busEvent_fixed 0x1#4 b 0#8).trans ?_
  rw [BitVec.and_zero]
  rfl

theorem busRbTx : Statement (.busRbTx) := rfl
theorem busRbTxLast : Statement (.busRbTxLast) := rfl
theorem busRbNone : Statement (.busRbNone) := rfl
theorem busRbRx : Statement (.busRbRx) := rfl
theorem busStop : Statement (.busStop) := rfl
theorem busBerr : Statement (.busBerr) := rfl
theorem reset : Statement (.reset) := rfl

end Sys2Proof.Laws.RowWord
end

