-- ==== Sys2Proof/Laws/Registers.lean ====
section
/-! SUPPORT. The register words the host reads, as numbers (R46, R47), and bits of a word read from its number. -/

namespace Sys2Proof.Machine

theorem statusWord_toNat (s : State) :
    s.statusWord.toNat =
      s.waitCntField.toNat * 2 ^ 24 + s.slv.bcnt.toNat * 2 ^ 20 + s.seq.lastFailState.toNat * 2 ^ 16 +
        s.ldr.phase.code.toNat * 2 ^ 12 + s.cfg.cmdRej.toNat * 2 ^ 11 + s.slv.rxReady.toNat * 2 ^ 10 +
        s.slv.dir.code.toNat * 2 ^ 8 + s.ldr.calErr.toNat * 2 ^ 7 + s.ldr.calBusy.toNat * 2 ^ 6 +
        s.ldr.calValid.toNat * 2 ^ 5 + s.reading.valid.toNat * 2 ^ 4 + s.seq.state.code.toNat := by
  unfold State.statusWord
  erw [toNat_concat, toNat_concat, toNat_concat, toNat_concat, toNat_concat, toNat_concat, toNat_concat, toNat_concat,
    toNat_concat, toNat_concat, toNat_concat, toNat_concat, toNat_concat]
  simp only [BitVec.toNat_ofBool, BitVec.toNat_ofNat]
  omega

/-- The field STATUS.WAIT_CNT as a number. -/
@[simp] theorem waitCntField_toNat (s : State) : s.waitCntField.toNat = s.seq.waitCnt % 256 := by
  simp [State.waitCntField]

theorem cfgWord_toNat (s : State) :
    s.cfgWord.toNat =
      s.cfg.slvAddr.toNat * 2 ^ 16 + s.cfg.waitTicks.toNat * 2 ^ 8 + s.cfg.rxIe.toNat * 2 + s.cfg.slvEn.toNat := by
  unfold State.cfgWord
  erw [toNat_concat, toNat_concat, toNat_concat, toNat_concat, toNat_concat]
  simp only [BitVec.toNat_ofBool, BitVec.toNat_ofNat]
  omega

/-- A bit of a word from the word's number. -/
theorem getLsbD_of_toNat {n : Nat} {v : BitVec n} {k : Nat} {b : Bool} (h : v.toNat / 2 ^ k % 2 = b.toNat) :
    v.getLsbD k = b := by
  rw [← BitVec.testBit_toNat, Nat.testBit_eq_decide_div_mod_eq, h]
  cases b <;> rfl

/-- A division of the engine keeps a bound (R208). -/
theorem engineDiv_bound (mode : Config.DivMode) {a B : Int} {k : Nat} (lo : -(B * 2 ^ k) ≤ a) (hi : a ≤ B * 2 ^ k) :
    -B ≤ engineDiv mode a k ∧ engineDiv mode a k ≤ B := by
  have hp : (0 : Int) < 2 ^ k := by positivity
  cases mode <;> unfold engineDiv
  · constructor
    · rw [← Int.neg_le_neg_iff, neg_neg, ← Int.neg_tdiv]
      calc Int.tdiv (-a) (2 ^ k) ≤ Int.tdiv (B * 2 ^ k) (2 ^ k) := Int.tdiv_le_tdiv hp (by linarith)
        _ = B := Int.mul_tdiv_cancel _ (by positivity)
    · calc Int.tdiv a (2 ^ k) ≤ Int.tdiv (B * 2 ^ k) (2 ^ k) := Int.tdiv_le_tdiv hp hi
        _ = B := Int.mul_tdiv_cancel _ (by positivity)
  · rw [Int.fdiv_eq_ediv_of_nonneg _ hp.le]
    constructor
    · rw [Int.le_ediv_iff_mul_le hp]; linarith
    · exact Int.ediv_le_of_le_mul hp hi

/-- A saturated value survives its 32-bit pattern (R203). -/
theorem u32_sat32_toInt (x : Int) : (u32 (sat32 x)).toInt = sat32 x := by
  unfold u32 sat32
  rw [BitVec.toInt_ofInt, Int.bmod_eq_of_le] <;> omega

end Sys2Proof.Machine
end

