-- ==== Sys2Proof/Laws/Rows.lean ====
section
/-! SUPPORT. Rows that share one word: whichever of them is executed, the rule the state selects runs (R107). And what the
bus events, as one family, can do. -/

namespace Sys2Proof.Machine

/-- An ADDR row without a match is the ADDR event. -/
theorem exec_busAddrNomatch (a7 : BitVec 7) (rw : Bool) (s : State) : exec (.busAddrNomatch a7 rw) s = busAddr a7 rw s := by
  simp only [exec, execBusAddrNomatch, byRow, busAddr]
  cases s.addrMatch a7 <;> simp

theorem exec_busAddrWMatch (a7 : BitVec 7) (s : State) : exec (.busAddrWMatch a7) s = busAddr a7 false s := by
  simp only [exec, execBusAddrWMatch, byRow, busAddr]
  cases s.addrMatch a7 <;> simp

theorem exec_busAddrRMatch (a7 : BitVec 7) (s : State) : exec (.busAddrRMatch a7) s = busAddr a7 true s := by
  simp only [exec, execBusAddrRMatch, byRow, busAddr]
  cases s.addrMatch a7 <;> simp

/-- Every WB row is the WB event. -/
theorem exec_writeByteRow {i : Instr} {b : Byte}
    (h : i = .busWbRx b ∨ i = .busWbRxLast b ∨ i = .busWbNone b ∨ i = .busWbTx b) (s : State) :
    exec i s = busWriteByte b s := by
  rcases h with rfl | rfl | rfl | rfl <;>
  simp only [exec, execBusWbRx, execBusWbRxLast, execBusWbNone, execBusWbTx, byRow, busWriteByte] <;>
  cases s.slv.dir <;> simp
  · intro h; simp [h]
  · intro h; simp [h]

/-- Every RB row is the RB event. -/
theorem exec_readByteRow {i : Instr} (h : i = .busRbTx ∨ i = .busRbTxLast ∨ i = .busRbNone ∨ i = .busRbRx) (s : State) :
    exec i s = busReadByte s := by
  rcases h with rfl | rfl | rfl | rfl <;>
  simp only [exec, execBusRbTx, execBusRbTxLast, execBusRbNone, execBusRbRx, byRow, busReadByte] <;>
  cases s.slv.dir <;> simp
  · intro h; simp [h]
  · intro h; simp [h]

/-- Every loader row is the loader step (R170). -/
theorem exec_loaderRow {i : Instr} (h : i = .tickLIdle ∨ i = .tickLReset ∨ i = .tickLWait ∨ i = .tickLProm) (s : State) :
    exec i s = .next (loaderStep s) := by
  rcases h with rfl | rfl | rfl | rfl <;>
  simp only [exec, execTickLIdle, execTickLReset, execTickLWait, execTickLProm, byRow, loaderStep] <;>
  cases s.ldr.phase <;> simp

/-- Every sequencer row is the sequencer step (R145). -/
theorem exec_sequencerRow {i : Instr}
    (h : i = .tickIdle ∨ i = .tickStartP ∨ i = .tickWaitP ∨ i = .tickReadP ∨ i = .tickStartT ∨ i = .tickWaitT ∨
      i = .tickReadT ∨ i = .tickCalc ∨ i = .tickError) (s : State) :
    exec i s = sequencerStep s := by
  rcases h with rfl | rfl | rfl | rfl | rfl | rfl | rfl | rfl | rfl <;>
  simp only [exec, execTickIdle, execTickStartP, execTickWaitP, execTickReadP, execTickStartT, execTickWaitT, execTickReadT,
    execTickCalc, execTickError, byRow, sequencerStep] <;>
  cases s.seq.state <;> simp

/-- The selected row depends on the responder and its address only, so taking the event first changes nothing. -/
@[simp] theorem selectRow_takeEvent (i : Instr) (s : State) (rest : List OpWord) :
    selectRow i (s.takeEvent rest) = selectRow i s := by
  cases i <;> rfl

/-- An ADDR event writes the responder and answers the bus, nothing else. -/
theorem busAddr_frame {a7 : BitVec 7} {rw : Bool} {s t : State} (h : busAddr a7 rw s = .next t) :
    ∃ r p, t = { s with slv := r, ports := p } := by
  unfold busAddr at h
  split at h <;> cases h
  · cases rw <;> exact ⟨_, _, rfl⟩
  · unfold addrNomatch State.dropTransfer; split <;> exact ⟨_, _, rfl⟩

/-- So does a WB event. -/
theorem busWriteByte_frame {b : Byte} {s t : State} (h : busWriteByte b s = .next t) :
    ∃ r p, t = { s with slv := r, ports := p } := by
  unfold busWriteByte at h
  (repeat' split at h) <;> cases h <;> exact ⟨_, _, rfl⟩

/-- So does an RB event. -/
theorem busReadByte_frame {s t : State} (h : busReadByte s = .next t) : ∃ r p, t = { s with slv := r, ports := p } := by
  unfold busReadByte at h
  (repeat' split at h) <;> cases h <;> exact ⟨_, _, rfl⟩

end Sys2Proof.Machine
end

