-- ==== Sys2Proof/Laws/Tick.lean ====
section
/-! SUPPORT. What a tick can do: the counters, the loader step and the sequencer step, each said once with everything it
can change. -/

namespace Sys2Proof.Machine

open Config

/-- `satdec` of a register as a number. -/
theorem satdec8_toNat (c : BitVec 8) : (satdec8 c).toNat = c.toNat - 1 := by
  unfold satdec8
  split
  · rename_i h; subst h; rfl
  · rename_i h
    have : c.toNat ≠ 0 := fun e => h (BitVec.eq_of_toNat_eq e)
    have := c.isLt
    rw [BitVec.toNat_sub]; simp; omega

/-- `satdec` of a register is 0 exactly on 0 and 1. -/
theorem satdec8_eq_zero {c : BitVec 8} : satdec8 c = 0#8 ↔ c.toNat ≤ 1 := by
  have := satdec8_toNat c
  constructor
  · intro h; rw [h] at this; simp at this; omega
  · intro h; apply BitVec.eq_of_toNat_eq; simp; omega

/-- `satdec` is the subtraction of 1 that stops at 0. -/
@[simp] theorem satdec_eq (c : Nat) : satdec c = c - 1 := by
  unfold satdec; split <;> omega

/-- `satinc_N` of a count of N bits. -/
theorem satinc_eq {n c : Nat} (h : c < 2 ^ n) : satinc n c = min (2 ^ n - 1) (c + 1) := by
  unfold satinc; split <;> omega

/-- What a Start state loads is CFG.WAIT_TICKS wherever the counter can hold it. -/
theorem settlingCount_eq {s : State} (h : s.cfg.waitTicks.toNat < 2 ^ s.params.waitCntWidth) :
    s.settlingCount = s.cfg.waitTicks.toNat := if_pos h

/-- What a Start state loads fits the counter. -/
theorem settlingCount_lt (s : State) : s.settlingCount < 2 ^ s.params.waitCntWidth := by
  unfold State.settlingCount
  split
  · assumption
  · exact Nat.mod_lt _ (Nat.two_pow_pos _)

@[simp] theorem called_settlingCount (s : State) (calls : List SensorCall) :
    (s.called calls).settlingCount = s.settlingCount := rfl

/-- Everything the loader step can do (R170 to R174). -/
theorem loaderStep_cases (s : State) :
    (s.ldr.phase = .lIdle ∧ loaderStep s = s) ∨
    (s.ldr.phase = .lWait ∧ loaderStep s =
      { s with
        ldr := { s.ldr with cnt := satdec8 s.ldr.cnt, phase := if satdec8 s.ldr.cnt = 0#8 then .lProm else .lWait } }) ∨
    ∃ calls,
      (s.ldr.phase = .lReset ∧ loaderStep s =
        { s.called calls with ldr := { s.ldr with cnt := s.params.resetWaitTicks, phase := .lWait } }) ∨
      (s.ldr.phase ≠ .lIdle ∧ loaderStep s = (s.called calls).loadFailed) ∨
      (s.ldr.phase = .lProm ∧ ∃ w, loaderStep s =
        { s.called calls with ldr := { s.ldr with cal := w, calValid := true, calBusy := false, phase := .lIdle } }) := by
  unfold loaderStep
  split <;> rename_i hp
  · exact .inl ⟨hp, rfl⟩
  · right; right
    unfold loaderReset
    rw [sensorWrite_eq]
    split <;> simp_all only [Prod.mk.injEq] <;> obtain ⟨_, rfl⟩ := ‹_ ∧ _›
    · exact ⟨_, .inr (.inl ⟨by simp, rfl⟩)⟩
    · exact ⟨_, .inl ⟨trivial, rfl⟩⟩
  · right; left
    simp [loaderWait, hp]
  · right; right
    unfold loaderProm
    obtain ⟨calls, hc⟩ := readProm_called s
    split <;> rename_i h <;> rw [h] at hc <;> simp only at hc <;> subst hc
    · exact ⟨calls, .inr (.inl ⟨by simp [hp], rfl⟩)⟩
    · exact ⟨calls, .inr (.inr ⟨hp, _, rfl⟩)⟩

/-- The loader step writes the loader and makes sensor calls, nothing else. -/
theorem loaderStep_frame (s : State) : ∃ l calls, loaderStep s = { s.called calls with ldr := l } := by
  have none_made : s.called [] = s := by simp [State.called]
  rcases loaderStep_cases s with ⟨_, h⟩ | ⟨_, h⟩ | ⟨calls, ⟨_, h⟩ | ⟨_, h⟩ | ⟨_, _, h⟩⟩ <;> rw [h]
  · exact ⟨s.ldr, [], by rw [none_made]⟩
  · exact ⟨_, [], by rw [none_made]⟩
  · exact ⟨_, _, rfl⟩
  · exact ⟨_, _, rfl⟩
  · exact ⟨_, _, rfl⟩

/-- Everything the sequencer step can do (R150 to R158). -/
theorem sequencerStep_cases {s t : State} (h : sequencerStep s = .next t) :
    (s.seq.state = .idle ∧ t = s) ∨
    (∃ calls,
      (s.seq.state = .startP ∧
        t = { s.called calls with seq := { s.seq with waitCnt := s.settlingCount, state := .waitP } }) ∨
      (s.seq.state = .startT ∧
        t = { s.called calls with seq := { s.seq with waitCnt := s.settlingCount, state := .waitT } }) ∨
      (s.seq.state ∈ [SeqState.startP, .readP, .startT, .readT] ∧ t = (s.called calls).seqError s.seq.state.code) ∨
      (s.seq.state = .readP ∧ ∃ d, t = { s.called calls with seq := { s.seq with rawD1 := d, state := .startT } }) ∨
      (s.seq.state = .readT ∧ ∃ d, t = { s.called calls with seq := { s.seq with rawD2 := d, state := .calc } })) ∨
    (s.seq.state = .waitP ∧ t =
      { s with
        seq :=
          { s.seq with
            waitCnt := satdec s.seq.waitCnt, state := if satdec s.seq.waitCnt = 0 then .readP else .waitP } }) ∨
    (s.seq.state = .waitT ∧ t =
      { s with
        seq :=
          { s.seq with
            waitCnt := satdec s.seq.waitCnt, state := if satdec s.seq.waitCnt = 0 then .readT else .waitT } }) ∨
    (s.seq.state = .calc ∧ s.ldr.calValid = true ∧
      ∃ p q, t = { s with reading := ⟨p, q, true⟩, seq := { s.seq with state := .startP } }) ∨
    (s.seq.state = .calc ∧ s.ldr.calValid = false ∧ t = s.seqError 7#4) ∨
    (s.seq.state = .error ∧
      ((s.params.errRetryLimit < satinc s.params.waitCntWidth s.seq.waitCnt ∧
          t = { s with reading := { s.reading with valid := false }, seq := { s.seq with waitCnt := 0, state := .startP } }) ∨
        (satinc s.params.waitCntWidth s.seq.waitCnt ≤ s.params.errRetryLimit ∧
          t = { s with reading := { s.reading with valid := false }, seq := { s.seq with waitCnt := satinc s.params.waitCntWidth s.seq.waitCnt } }))) := by
  unfold sequencerStep at h
  split at h <;> rename_i hs <;> try (simp only [Host.Outcome.next.injEq] at h)
  · exact .inl ⟨hs, h.symm⟩
  · right; left
    unfold seqStartP startConversion at h
    rw [sensorWrite_eq] at h
    split at h <;> simp_all only [Prod.mk.injEq] <;> obtain ⟨_, rfl⟩ := ‹_ ∧ _›
    · exact ⟨_, .inr (.inr (.inl ⟨by simp, h.symm⟩))⟩
    · exact ⟨_, .inl ⟨trivial, h.symm⟩⟩
  · right; right; left
    refine ⟨hs, h.symm.trans ?_⟩
    simp [seqWaitP, waitConversion, hs]
  · right; left
    unfold seqReadP at h
    obtain ⟨c, hc⟩ := readAdc_called s
    split at h <;> rename_i h' <;> rw [h'] at hc <;> simp only at hc <;> subst hc
    · exact ⟨c, .inr (.inr (.inl ⟨by simp [hs], by rw [hs]; exact h.symm⟩))⟩
    · exact ⟨c, .inr (.inr (.inr (.inl ⟨hs, _, h.symm⟩)))⟩
  · right; left
    unfold seqStartT startConversion at h
    rw [sensorWrite_eq] at h
    split at h <;> simp_all only [Prod.mk.injEq] <;> obtain ⟨_, rfl⟩ := ‹_ ∧ _›
    · exact ⟨_, .inr (.inr (.inl ⟨by simp, h.symm⟩))⟩
    · exact ⟨_, .inr (.inl ⟨trivial, h.symm⟩)⟩
  · right; right; right; left
    refine ⟨hs, h.symm.trans ?_⟩
    simp [seqWaitT, waitConversion, hs]
  · right; left
    unfold seqReadT at h
    obtain ⟨c, hc⟩ := readAdc_called s
    split at h <;> rename_i h' <;> rw [h'] at hc <;> simp only at hc <;> subst hc
    · exact ⟨c, .inr (.inr (.inl ⟨by simp [hs], by rw [hs]; exact h.symm⟩))⟩
    · exact ⟨c, .inr (.inr (.inr (.inr ⟨hs, _, h.symm⟩)))⟩
  · unfold seqCalc at h
    split at h <;> rename_i hv
    · right; right; right; right; left
      exact ⟨hs, hv, _, _, h.symm⟩
    · right; right; right; right; right; left
      exact ⟨hs, by simpa using hv, h.symm⟩
  · right; right; right; right; right; right
    unfold seqErrorTick at h
    simp only at h
    split at h
    · exact ⟨hs, .inl ⟨‹_›, h.symm⟩⟩
    · exact ⟨hs, .inr ⟨by omega, h.symm⟩⟩
  · cases h

/-- The sequencer step writes the sequencer and the reading and makes sensor calls, nothing else. -/
theorem sequencerStep_frame {s t : State} (h : sequencerStep s = .next t) :
    ∃ q r calls, t = { s.called calls with seq := q, reading := r } := by
  have none_made : s.called [] = s := by simp [State.called]
  rcases sequencerStep_cases h with
    ⟨_, rfl⟩ | ⟨c, ⟨_, rfl⟩ | ⟨_, rfl⟩ | ⟨_, rfl⟩ | ⟨_, d, rfl⟩ | ⟨_, d, rfl⟩⟩ | ⟨_, rfl⟩ | ⟨_, rfl⟩ | ⟨_, _, p, q, rfl⟩ |
      ⟨_, _, rfl⟩ | ⟨_, ⟨_, rfl⟩ | ⟨_, rfl⟩⟩
  case inl => exact ⟨_, _, [], by rw [none_made]⟩
  case inr.inl.inl => exact ⟨_, _, c, rfl⟩
  case inr.inl.inr.inl => exact ⟨_, _, c, rfl⟩
  case inr.inl.inr.inr.inl => exact ⟨_, _, c, rfl⟩
  case inr.inl.inr.inr.inr.inl => exact ⟨_, _, c, rfl⟩
  case inr.inl.inr.inr.inr.inr => exact ⟨_, _, c, rfl⟩
  all_goals exact ⟨_, _, [], by rw [none_made] <;> rfl⟩

/-- A code the sequencer may hold has a rule (R22). -/
theorem sequencerStep_next {s : State} (h : s.seq.state.isHeld = true) : ∃ t, sequencerStep s = .next t := by
  unfold sequencerStep
  split <;> first | exact ⟨_, rfl⟩ | simp_all [SeqState.isHeld]

end Sys2Proof.Machine
end

