-- ==== Sys2Proof/Machine/Traces.lean ====
section
/-! DEFINITION. The pseudo-instructions of the trace syntax (30_encoding.md R113), each as the operation words it expands
to, in order. They are spellings of events and no operations of the core; `POLL` is a loop of the host program and expands to
any number of `hostReadWord`s (R113). -/

namespace Sys2Proof.Machine

/-- `TICK*n`: n `TICK` lines (R113). -/
def traceTicks (n : Nat) : List OpWord := List.replicate n tickWord

/-- `START`: `W CMD, SEQ_START` (R113). -/
def traceStart : List OpWord := [hostWriteWord 0#6 0#2 0x00000001#32]

/-- `STOPSEQ`: `W CMD, SEQ_STOP` (R113). -/
def traceStopSeq : List OpWord := [hostWriteWord 0#6 0#2 0x00000002#32]

/-- `LOAD`: `W CMD, CAL_LOAD` (R113). -/
def traceLoad : List OpWord := [hostWriteWord 0#6 0#2 0x00000004#32]

/-- `BUSWRITE a, w`: the address for writing, the four bytes of the word, the least significant first, the stop (R113). -/
def traceBusWrite (a : BitVec 7) (w : Word) : List OpWord :=
  [busEventWord 0#4 (a ++ 0#1), busEventWord 1#4 (w.extractLsb' 0 8), busEventWord 1#4 (w.extractLsb' 8 8),
    busEventWord 1#4 (w.extractLsb' 16 8), busEventWord 1#4 (w.extractLsb' 24 8), busEventWord 3#4 0#8]

/-- `BUSREAD a`: the address for reading, four master reads, the stop (R113). -/
def traceBusRead (a : BitVec 7) : List OpWord :=
  [busEventWord 0#4 (a ++ 1#1), busEventWord 2#4 0#8, busEventWord 2#4 0#8, busEventWord 2#4 0#8, busEventWord 2#4 0#8,
    busEventWord 3#4 0#8]

end Sys2Proof.Machine
end

