-- ==== Sys2Proof/Tests/Slice0.lean ====
section
/-! SUPPORT. The model's own tests: well-formedness, words written out from 30_encoding.md, one step per row against the
vectors of 95_test_vectors.md (named in each comment), and a state that meets the hypotheses of each statement. -/

namespace Sys2Proof.Tests

open Sys2Proof.Machine Config

/-- The outcome is a next state with the property. -/
abbrev gives (o : Out) (p : State → Bool) : Bool :=
  match o with
  | .next t => p t
  | _ => false

/-- The outcome is this refusal. -/
abbrev refuses (o : Out) (r : Refusal) : Bool :=
  match o with
  | .refused r' => r' == r
  | _ => false

/-- The reset state of an instance whose responder address is 0x76. -/
abbrev base : State := State.resetWith { Params.default with slaveAddrReset := 0x76#7 }

/-- The fixture calibration set of 95_test_vectors.md. -/
abbrev fixture : Seven Half := ⟨0x0000#16, 0x88A6#16, 0x8E6B#16, 0x5115#16, 0x5BCA#16, 0x84AC#16, 0x70BF#16⟩

/-- A calibrated core in sequencer state `x`, with the answers `a` ready. -/
abbrev running (x : SeqState) (cnt : Nat := 0) (a : List SensorAnswer := []) : State :=
  { base with
    seq := { base.seq with state := x, waitCnt := cnt, rawD1 := 0x409CBF#24, rawD2 := 0x6A2CF6#24 }
    ldr := { base.ldr with cal := fixture, calValid := true }
    env := { base.env with answers := a } }

/-- A load in progress in phase `p`, with the answers `a` ready. -/
abbrev loading (p : LdrPhase) (cnt : BitVec 8 := 0#8) (a : List SensorAnswer := []) : State :=
  { base with
    ldr := { base.ldr with calBusy := true, phase := p, cnt := cnt }
    env := { base.env with answers := a } }

/-- A started responder. -/
abbrev started (d : SlvDir) (n : BitVec 3 := 0#3) : State :=
  { base with
    cfg := { base.cfg with slvEn := true }
    slv := { base.slv with dir := d, bcnt := n, rxbuf := 0x00030201#32, txbuf := 0xFFFFF660#32, txHold := 0x0001ADB0#32 } }

/-- The state with these events to come. -/
abbrev State.awaiting (s : State) (ops : List OpWord) : State := { s with env := { s.env with events := ops } }

/-- An answer without data bytes of interest. -/
abbrev ok : SensorAnswer := .ok 0#8 0#8 0#8

/-- The fourteen answers that give the fixture set (95_test_vectors.md 2.4). -/
abbrev promAnswers : List SensorAnswer :=
  [ok, .ok 0x00#8 0x00#8 0#8, ok, .ok 0x88#8 0xA6#8 0#8, ok, .ok 0x8E#8 0x6B#8 0#8, ok, .ok 0x51#8 0x15#8 0#8] ++
  [ok, .ok 0x5B#8 0xCA#8 0#8, ok, .ok 0x84#8 0xAC#8 0#8, ok, .ok 0x70#8 0xBF#8 0#8]

/-! ### Well-formedness -/

theorem test_wellFormed_refuses :
    (Instr.hwCmd 0#2 1#32).wellFormed = false ∧ (Instr.hwCmd 3#2 0xFFFFFFFA#32).wellFormed = false ∧
    (Instr.hwCmd 0#2 4#32).wellFormed = false := by decide

theorem test_wellFormed_accepts :
    (Instr.hwCmd 0#2 0#32).wellFormed = true ∧ (Instr.hwCmd 0#2 3#32).wellFormed = true ∧
    (Instr.hwCmd 0#2 5#32).wellFormed = true ∧ (Instr.hwCmd 0#2 7#32).wellFormed = true ∧
    (Instr.hwCmdSeqStop 0#2 0#29).wellFormed = true := by decide

/-! ### Decoding: words from 30_encoding.md R101 to R105, R114 and 95_test_vectors.md 2.1 -/

theorem test_decode_commands :
    decode 0x10000000000#44 = .ok (.hwCmd 0#2 0#32) ∧ decode 0x10000000001#44 = .ok (.hwCmdSeqStart 0#2 0#29) ∧
    decode 0x10000000002#44 = .ok (.hwCmdSeqStop 0#2 0#29) ∧ decode 0x10300000014#44 = .ok (.hwCmdCalLoad 3#2 2#29) ∧
    decode 0x10000000007#44 = .ok (.hwCmd 0#2 7#32) := by decide

theorem test_decode_hostWrites :
    decode 0x10700000005#44 = .ok (.hwCfg 3#2 5#32) ∧ decode 0x10400760103#44 = .ok (.hwCfg 0#2 0x00760103#32) ∧
    decode 0x10800000009#44 = .ok (.hwStatus 0#2 9#32) ∧ decode 0x10C00000009#44 = .ok (.hwPressure 0#2 9#32) ∧
    decode 0x11000000009#44 = .ok (.hwTemperature 0#2 9#32) ∧ decode 0x11400000009#44 = .ok (.hwRawD1 0#2 9#32) ∧
    decode 0x11800000009#44 = .ok (.hwRawD2 0#2 9#32) ∧ decode 0x11C0001ADB0#44 = .ok (.hwTxHold 0#2 0x0001ADB0#32) ∧
    decode 0x12000000009#44 = .ok (.hwRxData 0#2 9#32) := by decide

theorem test_decode_hostWrites_cal :
    decode 0x12400000009#44 = .ok (.hwCal0 0#2 9#32) ∧ decode 0x12800000009#44 = .ok (.hwCal1 0#2 9#32) ∧
    decode 0x12C00000009#44 = .ok (.hwCal2 0#2 9#32) ∧ decode 0x13000000009#44 = .ok (.hwCal3 0#2 9#32) ∧
    decode 0x13400000009#44 = .ok (.hwCal4 0#2 9#32) ∧ decode 0x13800000009#44 = .ok (.hwCal5 0#2 9#32) ∧
    decode 0x13C00000009#44 = .ok (.hwCal6 0#2 9#32) ∧ decode 0x14000000009#44 = .ok (.hwUnmapped40 0#6 9#32) ∧
    decode 0x17F00000009#44 = .ok (.hwUnmapped40 0x3F#6 9#32) ∧
    decode 0x180FFFFFFFF#44 = .ok (.hwUnmapped80 0#7 0xFFFFFFFF#32) ∧
    decode 0x1FF00000009#44 = .ok (.hwUnmapped80 0x7F#7 9#32) := by decide

theorem test_decode_hostReads :
    decode 0x20000000000#44 = .ok (.hrCmd 0#2) ∧ decode 0x20400000000#44 = .ok (.hrCfg 0#2) ∧
    decode 0x20800000000#44 = .ok (.hrStatus 0#2) ∧ decode 0x20C00000000#44 = .ok (.hrPressure 0#2) ∧
    decode 0x21000000000#44 = .ok (.hrTemperature 0#2) ∧ decode 0x21700000000#44 = .ok (.hrRawD1 3#2) ∧
    decode 0x21800000000#44 = .ok (.hrRawD2 0#2) ∧ decode 0x21C00000000#44 = .ok (.hrTxHold 0#2) ∧
    decode 0x22000000000#44 = .ok (.hrRxData 0#2) := by decide

theorem test_decode_hostReads_cal :
    decode 0x22400000000#44 = .ok (.hrCal0 0#2) ∧ decode 0x22800000000#44 = .ok (.hrCal1 0#2) ∧
    decode 0x22C00000000#44 = .ok (.hrCal2 0#2) ∧ decode 0x23000000000#44 = .ok (.hrCal3 0#2) ∧
    decode 0x23400000000#44 = .ok (.hrCal4 0#2) ∧ decode 0x23800000000#44 = .ok (.hrCal5 0#2) ∧
    decode 0x23C00000000#44 = .ok (.hrCal6 0#2) ∧ decode 0x24000000000#44 = .ok (.hrUnmapped40 0#6) ∧
    decode 0x2FC00000000#44 = .ok (.hrUnmapped80 0x7C#7) := by decide

theorem test_decode_tick_reset :
    decode 0x30000000000#44 = .ok .tick ∧ decode 0x50000000000#44 = .ok .reset := by decide

theorem test_decode_bus :
    decode 0x400000000EC#44 = .ok (.busAddrNomatch 0x76#7 false) ∧
    decode 0x400000000ED#44 = .ok (.busAddrNomatch 0x76#7 true) ∧ decode 0x410000000AA#44 = .ok (.busWbNone 0xAA#8) ∧
    decode 0x42000000000#44 = .ok .busRbNone ∧ decode 0x43000000000#44 = .ok .busStop ∧
    decode 0x44000000000#44 = .ok .busBerr := by decide

/-- The rows of the other direction states, from the same words (R107). -/
theorem test_select_bus :
    selectRow (.busAddrNomatch 0x76#7 false) (started .none) = .busAddrWMatch 0x76#7 ∧
    selectRow (.busAddrNomatch 0x76#7 true) (started .none) = .busAddrRMatch 0x76#7 ∧
    selectRow (.busAddrNomatch 0x77#7 true) (started .none) = .busAddrNomatch 0x77#7 true ∧
    selectRow (.busWbNone 4#8) (started .receiving 2#3) = .busWbRx 4#8 ∧
    selectRow (.busWbNone 4#8) (started .receiving 3#3) = .busWbRxLast 4#8 ∧
    selectRow (.busWbNone 4#8) (started .transmitting 2#3) = .busWbTx 4#8 ∧
    selectRow .busRbNone (started .transmitting 2#3) = .busRbTx ∧
    selectRow .busRbNone (started .transmitting 3#3) = .busRbTxLast ∧
    selectRow .busRbNone (started .receiving 1#3) = .busRbRx := by decide

theorem test_decode_reserved :
    decode 0x00000000000#44 = .error (.reservedKind 0#4) ∧ decode 0x60000000000#44 = .error (.reservedKind 6#4) ∧
    decode 0xF0000000000#44 = .error (.reservedKind 15#4) ∧ decode 0x20800000001#44 = .error .hostReadNonzero ∧
    decode 0x30000000001#44 = .error .tickNonzero ∧ decode 0x50000000001#44 = .error .resetNonzero ∧
    decode 0x45000000000#44 = .error (.reservedBusEvent 5#4) ∧ decode 0x4F000000000#44 = .error (.reservedBusEvent 15#4) ∧
    decode 0x42000000001#44 = .error .busPayloadNonzero ∧ decode 0x43000000080#44 = .error .busPayloadNonzero ∧
    decode 0x44000000001#44 = .error .busPayloadNonzero ∧ decode 0x40000000100#44 = .error .busNonzero := by decide

/-- A number of more than 44 bits spells no operation word. -/
theorem test_tableWord :
    decodeTableWord 48 0x50000000000 = some .reset ∧ decodeTableWord 44 0x1050000000000 = some .reset ∧
    decodeTableWord 48 0x150000000000 = none := by decide

theorem test_withFetchWord :
    (State.reset.withFetchWord 48 0x50000000000).env.events = [0x50000000000#44] ∧
    refuses (step (base.withFetchWord 48 0x150000000000)) (.reservedWord (.reservedKind 0#4)) = true := by decide

/-! ### Host commands: 95_test_vectors.md 2.2 -/

theorem test_hwCmd_stop_then_start :
    gives (exec (.hwCmd 0#2 3#32) (running .waitT 1))
      (fun t => t.seq.state == .startP && t.seq.waitCnt == 0 && !t.cfg.cmdRej) = true := by decide

theorem test_hwCmd_start_refused_load_accepted :
    gives (exec (.hwCmd 0#2 5#32) base)
      (fun t => t.seq.state == .idle && t.ldr.calBusy && t.ldr.phase == .lReset && t.cfg.cmdRej) = true := by decide

theorem test_hwCmdSeqStop :
    gives (exec (.hwCmdSeqStop 0#2 0#29) (running .error 4))
      (fun t => t.seq.state == .idle && t.seq.waitCnt == 0 && !t.cfg.cmdRej) = true := by decide

theorem test_hwCmdSeqStart :
    gives (exec (.hwCmdSeqStart 0#2 0#29) (running .idle)) (fun t => t.seq.state == .startP && !t.cfg.cmdRej) = true := by
  decide

theorem test_hwCmdSeqStart_refused :
    gives (exec (.hwCmdSeqStart 0#2 0#29) base) (fun t => t.seq == base.seq && t.cfg.cmdRej) = true := by decide

theorem test_hwCmdCalLoad :
    gives (exec (.hwCmdCalLoad 0#2 0#29) { base with ldr := { base.ldr with calErr := true } })
      (fun t => t.ldr.calBusy && !t.ldr.calErr && t.ldr.phase == .lReset && !t.cfg.cmdRej) = true := by decide

theorem test_hwCmdCalLoad_refused :
    gives (exec (.hwCmdCalLoad 0#2 0#29) (running .idle)) (fun t => t.ldr == (running .idle).ldr && t.cfg.cmdRej) = true := by
  decide

/-! ### Host accesses: 95_test_vectors.md 2.7 -/

theorem test_hwCfg :
    gives (exec (.hwCfg 0#2 0x00760103#32) base)
      (fun t => t.cfg.slvEn && t.cfg.rxIe && t.cfg.waitTicks == 1#8 && t.cfg.slvAddr == 0x76#7) = true := by decide

theorem test_hwCfg_stops_responder :
    gives (exec (.hwCfg 0#2 0x00760100#32) (started .receiving 2#3))
      (fun t => t.slv.dir == .none && t.slv.bcnt == 0#3) = true ∧
    gives (exec (.hwCfg 0#2 0x00550101#32) (started .receiving 2#3))
      (fun t => t.slv.dir == .receiving && t.slv.bcnt == 2#3 && t.cfg.slvAddr == 0x55#7) = true := by decide

theorem test_ignoredWrites :
    gives (exec (.hwPressure 0#2 7#32) (running .calc)) (fun t => t == running .calc) = true ∧
    gives (exec (.hwRxData 0#2 0#32) { base with slv := { base.slv with rxReady := true } }) (fun t => t.slv.rxReady) = true ∧
    gives (exec (.hwCal1 0#2 0#32) (running .idle)) (fun t => t.ldr.cal == fixture) = true ∧
    gives (exec (.hwUnmapped80 0#7 0xFFFFFFFF#32) base) (fun t => t == base) = true := by decide

theorem test_hwTxHold :
    gives (exec (.hwTxHold 0#2 0x22222222#32) (started .transmitting 1#3))
      (fun t => t.slv.txHold == 0x22222222#32 && t.slv.txbuf == 0xFFFFF660#32) = true := by decide

theorem test_hrCfg :
    gives (exec (.hrCfg 0#2) base) (fun t => t.ports.hostData == some 0x00760100#32) = true ∧
    gives (exec (.hrCfg 0#2) { base with cfg := ⟨true, true, 0xFF#8, 0x7F#7, false⟩ })
      (fun t => t.ports.hostData == some 0x007FFF03#32) = true := by decide

theorem test_hrStatus :
    gives (exec (.hrStatus 0#2) base) (fun t => t.ports.hostData == some 0#32) = true ∧
    gives (exec (.hrStatus 0#2)
      { running .error 10 with seq := { (running .error 10).seq with lastFailState := 1#4 } })
      (fun t => t.ports.hostData == some 0x0A010028#32) = true := by decide

theorem test_hrStatus_fields :
    gives (exec (.hrStatus 0#2) { loading .lWait with cfg := { base.cfg with cmdRej := true } })
      (fun t => t.ports.hostData == some 0x00002840#32) = true ∧
    gives (exec (.hrStatus 0#2) (started .receiving 3#3)) (fun t => t.ports.hostData == some 0x00300100#32) = true := by
  decide

theorem test_hrRxData :
    gives (exec (.hrRxData 0#2) { base with slv := { base.slv with rxData := 0x04030201#32, rxReady := true } })
      (fun t => t.ports.hostData == some 0x04030201#32 && !t.slv.rxReady) = true := by decide

theorem test_hr_registers :
    gives (exec (.hrRawD1 3#2) (running .idle)) (fun t => t.ports.hostData == some 0x00409CBF#32) = true ∧
    gives (exec (.hrCal1 0#2) (running .idle)) (fun t => t.ports.hostData == some 0x000088A6#32) = true ∧
    gives (exec (.hrCal6 0#2) (running .idle)) (fun t => t.ports.hostData == some 0x000070BF#32) = true ∧
    gives (exec (.hrUnmapped80 0x7C#7) (running .idle)) (fun t => t.ports.hostData == some 0#32) = true := by decide

/-! ### Loader ticks: 95_test_vectors.md 2.4 -/

theorem test_tickLReset :
    gives (exec .tickLReset (loading .lReset 0#8 [ok]))
      (fun t => t.ldr.phase == .lWait && t.ldr.cnt == 2#8 && t.ports.sensorCalls == [.write 0x1E#8]) = true ∧
    gives (exec .tickLReset (loading .lReset 0#8 [.fail]))
      (fun t => t.ldr.phase == .lIdle && !t.ldr.calBusy && t.ldr.calErr) = true := by decide

theorem test_tickLWait :
    gives (exec .tickLWait (loading .lWait 2#8)) (fun t => t.ldr.phase == .lWait && t.ldr.cnt == 1#8) = true ∧
    gives (exec .tickLWait (loading .lWait 0#8)) (fun t => t.ldr.phase == .lProm && t.ldr.cnt == 0#8) = true := by decide

theorem test_tickLProm :
    gives (exec .tickLProm (loading .lProm 0#8 promAnswers))
      (fun t => t.ldr.cal == fixture && t.ldr.calValid && !t.ldr.calBusy && t.ldr.phase == .lIdle &&
        t.ports.sensorCalls.length == 14 && t.env.answers == []) = true := by decide

theorem test_tickLProm_fails :
    gives (exec .tickLProm (loading .lProm 0#8 [ok, .ok 0xFF#8 0xFF#8 0#8, ok, .ok 0xFF#8 0xFF#8 0#8, ok, .fail]))
      (fun t => t.ldr.cal == base.ldr.cal && !t.ldr.calValid && t.ldr.calErr && !t.ldr.calBusy &&
        t.ports.sensorCalls == [.write 0xA0#8, .read 2, .write 0xA2#8, .read 2, .write 0xA4#8, .read 2]) = true := by decide

/-! ### Sequencer ticks: 95_test_vectors.md 2.3 -/

theorem test_tickStartP :
    gives (exec .tickStartP (running .startP 0 [ok]))
      (fun t => t.seq.state == .waitP && t.seq.waitCnt == 1 && t.ports.sensorCalls == [.write 0x40#8]) = true ∧
    gives (exec .tickStartP (running .startP 0 [.fail]))
      (fun t => t.seq.state == .error && t.seq.lastFailState == 1#4 && !t.reading.valid) = true := by decide

theorem test_tickWaitP :
    gives (exec .tickWaitP (running .waitP 1)) (fun t => t.seq.state == .readP && t.seq.waitCnt == 0) = true ∧
    gives (exec .tickWaitP (running .waitP 3)) (fun t => t.seq.state == .waitP && t.seq.waitCnt == 2) = true := by decide

theorem test_tickReadP :
    gives (exec .tickReadP (running .readP 0 [ok, .ok 0x12#8 0x34#8 0x56#8]))
      (fun t => t.seq.state == .startT && t.seq.rawD1 == 0x123456#24 && t.seq.rawD2 == 0x6A2CF6#24 &&
        t.ports.sensorCalls == [.write 0x00#8, .read 3]) = true ∧
    gives (exec .tickReadP (running .readP 0 [.fail, ok]))
      (fun t => t.seq.state == .error && t.seq.lastFailState == 3#4 && t.seq.rawD1 == 0x409CBF#24 &&
        t.ports.sensorCalls == [.write 0x00#8]) = true := by decide

theorem test_tickStartT :
    gives (exec .tickStartT (running .startT 0 [ok]))
      (fun t => t.seq.state == .waitT && t.seq.waitCnt == 1 && t.ports.sensorCalls == [.write 0x50#8]) = true ∧
    gives (exec .tickStartT (running .startT 0 [.fail])) (fun t => t.seq.lastFailState == 4#4) = true := by decide

theorem test_tickWaitT :
    gives (exec .tickWaitT (running .waitT 2)) (fun t => t.seq.state == .waitT && t.seq.waitCnt == 1) = true ∧
    gives (exec .tickWaitT (running .waitT 0)) (fun t => t.seq.state == .readT && t.seq.waitCnt == 0) = true := by decide

theorem test_tickReadT :
    gives (exec .tickReadT (running .readT 0 [ok, .ok 0x12#8 0x34#8 0x56#8]))
      (fun t => t.seq.state == .calc && t.seq.rawD2 == 0x123456#24 && t.seq.rawD1 == 0x409CBF#24) = true ∧
    gives (exec .tickReadT (running .readT 0 [ok, .fail]))
      (fun t => t.seq.state == .error && t.seq.lastFailState == 6#4) = true := by decide

theorem test_tickCalc :
    gives (exec .tickCalc (running .calc))
      (fun t => t.seq.state == .startP && t.reading == ⟨0xFFFFF660#32, 0xFFFFF07A#32, true⟩) = true := by decide

theorem test_tickCalc_floor :
    gives (exec .tickCalc { running .calc with params := { base.params with divMode := .floor } })
      (fun t => t.reading == ⟨0xFFFFF65F#32, 0xFFFFF079#32, true⟩) = true := by decide

theorem test_tickError :
    gives (exec .tickError (running .error 9)) (fun t => t.seq.state == .error && t.seq.waitCnt == 10) = true ∧
    gives (exec .tickError (running .error 10)) (fun t => t.seq.state == .startP && t.seq.waitCnt == 0) = true := by decide

theorem test_tick_loader_then_sequencer :
    gives (exec .tick (loading .lProm 0#8 promAnswers)) (fun t => t.ldr.calValid && t.seq.state == .idle) = true ∧
    gives (exec .tick (running .waitP 1)) (fun t => t.seq.state == .readP) = true := by decide

theorem test_tick_idle : gives (exec .tick base) (fun t => t == base) = true := by decide

/-- 95_test_vectors.md 2.5: a row with a negative SENS, and the datasheet row. -/
theorem test_compensate :
    compensate .trunc ⟨0#16, 65535#16, 0#16, 65535#16, 0#16, 65535#16, 65535#16⟩ 16777215#24 0#24 = (-1048527, -129068) ∧
    compensate .floor ⟨0#16, 65535#16, 0#16, 65535#16, 0#16, 65535#16, 65535#16⟩ 16777215#24 0#24 = (-1048528, -129069) ∧
    compensate .trunc ⟨0#16, 46372#16, 43981#16, 29059#16, 27842#16, 31553#16, 28165#16⟩ 6465444#24 8077636#24 =
      (110002, 2000) ∧
    sat32 (2 ^ 31) = 2 ^ 31 - 1 ∧ sat32 (-(2 ^ 31) - 1) = -(2 ^ 31) := by decide

/-! ### Bus events: 95_test_vectors.md 2.6 -/

theorem test_busAddrWMatch :
    gives (exec (.busAddrWMatch 0x76#7) (started .receiving 2#3))
      (fun t => t.slv.dir == .receiving && t.slv.bcnt == 0#3 && t.ports.busAnswer == some .ack) = true := by decide

theorem test_busAddrRMatch :
    gives (exec (.busAddrRMatch 0x76#7) (started .receiving 2#3))
      (fun t => t.slv.dir == .transmitting && t.slv.bcnt == 0#3 && t.slv.txbuf == 0x0001ADB0#32) = true := by decide

theorem test_busAddrNomatch :
    gives (exec (.busAddrNomatch 0x77#7 true) (started .receiving 1#3))
      (fun t => t.slv.dir == .none && t.slv.bcnt == 0#3 && t.ports.busAnswer == some .nack) = true ∧
    gives (exec (.busAddrNomatch 0x76#7 false) base) (fun t => t.ports.busAnswer == some .nack) = true := by decide

theorem test_busWbRx :
    gives (exec (.busWbRx 0xAA#8) (started .receiving 1#3))
      (fun t => t.slv.rxbuf == 0x0003AA01#32 && t.slv.bcnt == 2#3 && t.ports.busAnswer == some .ack) = true := by decide

theorem test_busWbRxLast :
    gives (exec (.busWbRxLast 0x04#8) (started .receiving 3#3))
      (fun t => t.slv.rxData == 0x04030201#32 && t.slv.rxReady && t.slv.dir == .none && t.slv.bcnt == 0#3) = true := by decide

theorem test_busWbNone :
    gives (exec (.busWbNone 5#8) (started .none)) (fun t => t.ports.busAnswer == some .nack && t.slv == (started .none).slv) =
      true := by decide

theorem test_busWbTx :
    gives (exec (.busWbTx 0#8) (started .transmitting 2#3))
      (fun t => t.slv.dir == .none && t.slv.bcnt == 0#3 && t.ports.busAnswer == some .nack) = true := by decide

theorem test_busRbTx :
    gives (exec .busRbTx (started .transmitting 1#3))
      (fun t => t.ports.busAnswer == some (.drive 0xF6#8) && t.slv.bcnt == 2#3) = true := by decide

theorem test_busRbTxLast :
    gives (exec .busRbTxLast (started .transmitting 3#3))
      (fun t => t.ports.busAnswer == some (.drive 0xFF#8) && t.slv.dir == .none && t.slv.bcnt == 0#3) = true := by decide

theorem test_busRbNone :
    gives (exec .busRbNone (started .none))
      (fun t => t.ports.busAnswer == some (.drive 0xFF#8) && t.slv == (started .none).slv) = true := by decide

theorem test_busRbRx :
    gives (exec .busRbRx (started .receiving 1#3))
      (fun t => t.ports.busAnswer == some (.drive 0xFF#8) && t.slv.dir == .none && t.slv.bcnt == 0#3) = true := by decide

theorem test_busStop :
    gives (exec .busStop (started .receiving 2#3))
      (fun t => t.slv.dir == .none && t.slv.bcnt == 0#3 && t.slv.rxData == 0#32 && !t.slv.rxReady) = true := by decide

theorem test_busBerr :
    gives (exec .busBerr (started .transmitting 1#3))
      (fun t => t.slv.dir == .none && t.slv.bcnt == 0#3 && t.cfg.slvEn) = true := by decide

/-- 95_test_vectors.md 2.9. -/
theorem test_reset :
    gives (exec .reset (running .error 4)) (fun t => t.seq == base.seq && t.ldr == base.ldr && t.cfg == base.cfg) = true := by
  decide

/-! ### The step -/

theorem test_step_bus :
    gives (step (State.awaiting (started .receiving 3#3) [0x41000000004#44, 0x30000000000#44]))
      (fun t => t.slv.rxData == 0x04030201#32 && t.env.events == [0x30000000000#44]) = true := by decide

theorem test_step_clears_ports :
    gives (step (State.awaiting { base with ports := ⟨some 1#32, some .ack, [.read 2]⟩ } [0x43000000000#44]))
      (fun t => t.ports == {}) = true := by decide

theorem test_step_reserved_word :
    refuses (step (State.awaiting base [0x45000000000#44])) (.reservedWord (.reservedBusEvent 5#4)) = true := by decide

/-! ### Witnesses: states and operands that meet the hypotheses of the statements -/

theorem inv_base : CoreInv base := by constructor <;> decide

theorem inv_calc : CoreInv (running .calc) := by constructor <;> decide

theorem inv_error : CoreInv (running .error 10) := by constructor <;> decide

theorem inv_loading : CoreInv (loading .lProm) := by constructor <;> decide

theorem inv_receiving : CoreInv (started .receiving 3#3) := by constructor <;> decide

/-- EncodedInstructionDecodes, DecodedWordIsReencoded: both ends of the ranges of the last unmapped row. -/
theorem witness_encoding :
    (Instr.hwUnmapped80 0x7F#7 0xFFFFFFFF#32).wellFormed = true ∧
    encode (.hwUnmapped80 0x7F#7 0xFFFFFFFF#32) = 0x1FFFFFFFFFF#44 ∧
    decode 0x1FFFFFFFFFF#44 = .ok (.hwUnmapped80 0x7F#7 0xFFFFFFFF#32) ∧
    decode 0x14000000000#44 = .ok (.hwUnmapped40 0#6 0#32) := by decide

/-- ReservedWordsRefused: the second clause; its first is met on both sides by `test_decode_reserved`. -/
theorem witness_reserved :
    (State.awaiting base [0x42000000001#44]).isHeld = true ∧
    (State.awaiting base [0x42000000001#44]).env.events = 0x42000000001#44 :: [] ∧
    decode 0x42000000001#44 = .error .busPayloadNonzero := by decide

/-- StepRunsTheDecodedRow: both clauses. -/
theorem witness_step :
    (State.awaiting (started .receiving 4#3) [tickWord]).isHeld = true ∧
    (State.awaiting (started .receiving 4#3) [tickWord]).env.events = tickWord :: [] ∧ decode tickWord = .ok .tick ∧
    base.isHeld = true ∧ base.env.events = [] := by decide

/-- SelectedRowIsTheRulesRow, at BCNT = 3. -/
theorem witness_selectedRow :
    decode 0x410000000FF#44 = .ok (.busWbNone 0xFF#8) ∧ CoreInv (started .receiving 3#3) := ⟨by decide, inv_receiving⟩

/-- OneWordOneMeaning. -/
theorem witness_oneWord :
    isTickHalf (.hwCmd 0#2 1#32) = false ∧ isTickHalf (.hwCmdSeqStart 0#2 0#29) = false ∧
    encode (.hwCmd 0#2 1#32) = encode (.hwCmdSeqStart 0#2 0#29) ∧ encode .busRbTx = encode .busRbNone := by decide

/-- TickIsLoaderThenSequencer: the loader row L_PROM, then the sequencer row IDLE. -/
theorem witness_tick :
    rowCondition .tickLProm (loading .lProm 0#8 promAnswers) = true ∧
    exec .tickLProm (loading .lProm 0#8 promAnswers) = .next (loaderStep (loading .lProm 0#8 promAnswers)) ∧
    rowCondition .tickIdle (loaderStep (loading .lProm 0#8 promAnswers)) = true := ⟨by decide, rfl, by decide⟩

/-- NeverHeldCodesRefused: each of the three codes. -/
theorem witness_neverHeld :
    9 ≤ (running (.reserved 0)).seq.state.code.toNat ∧ (started .reserved).slv.dir.code = 3#2 ∧
    5 ≤ (started .receiving 5#3).slv.bcnt.toNat ∧ refuses (step (running (.reserved 6))) .neverHeldState = true ∧
    refuses (step (started .none 7#3)) .neverHeldState = true := by decide

/-- The defaults of R10: an 8-bit counter and a tick of 2 ms. A counter of 4 bits saturates at 15, one of 8 at 255 (R13). -/
theorem test_wait_counter_width :
    Params.default.waitCntWidth = 8 ∧ Params.default.tickMicros = 2000 ∧ satinc 4 14 = 15 ∧ satinc 4 15 = 15 ∧
    satinc 8 255 = 255 := by decide

/-- OnlyReservedWordsStopTheCore, StepKeepsInvariants. -/
theorem witness_stepInv :
    CoreInv (running .calc) ∧ gives (step (State.awaiting (running .calc) [tickWord])) (fun t => t.reading.valid) = true :=
  ⟨inv_calc, by decide⟩

/-- CmdWriteEffect: a start that is accepted and a load that is. -/
theorem witness_cmdWrite :
    (running .idle).seq.state = .idle ∧ (running .idle).ldr.calValid = true ∧ base.ldr.calValid = false ∧
    base.ldr.calBusy = false ∧ base.seq.state = .idle := by decide

/-- SingleCommandEffects: a refused start in each way, a refused load in each way. -/
theorem witness_singleCommand :
    (running .error).seq.state ≠ .idle ∧ base.ldr.calValid = false ∧ (running .idle).ldr.calValid = true ∧
    (loading .lReset).ldr.calBusy = true := by decide

/-- CmdRejWrittenByCmdOnly. -/
theorem witness_cmdRej : gives (exec (.hwCmdSeqStart 0#2 0#29) base) (fun t => t.cfg.cmdRej != base.cfg.cmdRej) = true := by
  decide

/-- OtherHostReadsHaveNoSideEffect, BusEventsDoNotReadTheSequencer. -/
theorem witness_words :
    (encode (.hrStatus 0#2)).extractLsb' 40 4 = 2#4 ∧ (encode (.hrStatus 0#2)).extractLsb' 34 6 ≠ 8#6 ∧
    (encode .busBerr).extractLsb' 40 4 = 4#4 := by decide

/-- LoaderResetStep, LoaderWaitStep at counts 1 and 2, LoaderPromStep with no failure and with the last call failing. -/
theorem witness_loader :
    (loading .lReset).ldr.phase = .lReset ∧ (loading .lWait 1#8).ldr.cnt.toNat ≤ 1 ∧ 1 < (loading .lWait 2#8).ldr.cnt.toNat ∧
    (∀ n, n < 14 → (loading .lProm 0#8 promAnswers).env.answerAt n ≠ .fail) ∧
    (∀ n, n < 13 → (loading .lProm 0#8 (promAnswers.take 13 ++ [.fail])).env.answerAt n ≠ .fail) ∧
    (loading .lProm 0#8 (promAnswers.take 13 ++ [.fail])).env.answerAt 13 = .fail := by decide

/-- IdleStepsChangeNothing, StartConversionSteps (both answers, a wait that fits), WaitConversionSteps at counts 1 and 2. -/
theorem witness_sequencer :
    base.seq.state = .idle ∧ base.ldr.phase = .lIdle ∧ (running .startP 0 [.fail]).env.answerAt 0 = .fail ∧
    (running .startT 0 [ok]).env.answerAt 0 ≠ .fail ∧ (running .waitP 1).seq.waitCnt ≤ 1 ∧
    (running .startT).cfg.waitTicks.toNat < 2 ^ (running .startT).params.waitCntWidth ∧
    1 < (running .waitT 2).seq.waitCnt := by decide

/-- ReadAdcSteps: each of its three clauses. -/
theorem witness_readAdc :
    (running .readP 0 [.fail]).env.answerAt 0 = .fail ∧ (running .readT 0 [ok, .fail]).env.answerAt 0 ≠ .fail ∧
    (running .readT 0 [ok, .fail]).env.answerAt 1 = .fail ∧ (running .readP 0 [ok, ok]).env.answerAt 1 ≠ .fail := by
  decide

/-- CalculateStep with and without a calibration set; ErrorStep at the limit and past it. -/
theorem witness_calc_error :
    (running .calc).seq.state = .calc ∧ (running .calc).ldr.calValid = true ∧
    { base with seq := { base.seq with state := .calc } }.ldr.calValid = false ∧
    (running .error 10).seq.waitCnt < 2 ^ (running .error 10).params.waitCntWidth ∧
    (running .error 10).params.errRetryLimit < min (2 ^ 8 - 1) ((running .error 10).seq.waitCnt + 1) ∧
    min (2 ^ 8 - 1) ((running .error 9).seq.waitCnt + 1) ≤ (running .error 9).params.errRetryLimit := by decide

/-- TickCompletesWithItsFrame, TickFollowsTheCycle, TickDoesNotReadTheResponder. -/
theorem witness_tickNext :
    (running .error 10).seq.state.code.toNat ≤ 8 ∧ CoreInv (running .error 10) ∧
    gives (exec .tick (running .error 10)) (fun t => t.seq.state != .error) = true := ⟨by decide, inv_error, by decide⟩

/-- ErrorEntryIsPrecise. -/
theorem witness_errorEntry :
    gives (step (State.awaiting (running .readT 0 [ok, .fail]) [tickWord])) (fun t => t.seq.state == .error) = true ∧
    CoreInv (State.awaiting (running .readT 0 [ok, .fail]) [tickWord]) := ⟨by decide, by constructor <;> decide⟩

/-- ErrorEpisodeLength, with a limit of 0, and with a limit of 300 in a counter of 9 bits. -/
theorem witness_errorEpisode :
    let s := State.awaiting { running .error with params := { base.params with errRetryLimit := 0 } } [tickWord, tickWord]
    CoreInv s ∧ s.seq.state = .error ∧ s.seq.waitCnt = 0 ∧ s.params.errRetryLimit < 2 ^ s.params.waitCntWidth - 1 ∧
    s.env.events = List.replicate (s.params.errRetryLimit + 2) tickWord ++ [] :=
  ⟨by constructor <;> decide, by decide, by decide, by decide, by decide⟩

theorem witness_errorEpisode_wide :
    let s := State.awaiting { running .error with params := { base.params with errRetryLimit := 300, waitCntWidth := 9 } }
      (List.replicate 302 tickWord)
    CoreInv s ∧ s.seq.state = .error ∧ s.seq.waitCnt = 0 ∧ s.params.errRetryLimit < 2 ^ s.params.waitCntWidth - 1 ∧
    s.env.events = List.replicate (s.params.errRetryLimit + 2) tickWord ++ [] :=
  ⟨by constructor <;> decide, by decide, by decide, by decide, (List.append_nil _).symm⟩

/-- STATUS shows WAIT_CNT[7:0] of a counter wider than 8 bits (R272). -/
theorem test_status_wide_count :
    gives (exec (.hrStatus 0#2) (running .error 0x1A5))
      (fun t => t.ports.hostData.map (fun v => v.extractLsb' 24 8) == some 0xA5#8) = true := by decide

/-- CycleLength, at WAIT_TICKS = 1. -/
theorem witness_cycle :
    let s := State.awaiting (running .startP 0 [ok, ok, ok, ok, ok, ok]) (List.replicate 7 tickWord)
    CoreInv s ∧ s.seq.state = .startP ∧ s.cfg.waitTicks.toNat < 2 ^ s.params.waitCntWidth ∧
    (∀ n, n < 6 → s.env.answerAt n ≠ .fail) ∧
    s.env.events = List.replicate (5 + 2 * max 1 s.cfg.waitTicks.toNat) tickWord ++ [] :=
  ⟨by constructor <;> decide, by decide, by decide, by decide, by decide⟩

/-- LoadLength, at RESET_WAIT_TICKS = 2. -/
theorem witness_load :
    let s := State.awaiting (loading .lReset 0#8 (ok :: promAnswers)) (List.replicate 4 tickWord)
    CoreInv s ∧ s.ldr.phase = .lReset ∧ (∀ n, n < 15 → s.env.answerAt n ≠ .fail) ∧
    s.env.events = List.replicate (2 + max 1 s.params.resetWaitTicks.toNat) tickWord ++ [] :=
  ⟨by constructor <;> decide, by decide, by decide, by decide⟩

/-- CalibrationImmutable, ReadingWrittenByCalculateOnly: a tick in CALC, which changes the reading. -/
theorem witness_calcStep :
    let s := State.awaiting (running .calc) [tickWord]
    CoreInv s ∧ s.ldr.calValid = true ∧ s.env.events.head? ≠ some resetWord ∧
    gives (step s) (fun t => t.reading.pressure != s.reading.pressure && t.reading.valid) = true :=
  ⟨by constructor <;> decide, by decide, by decide, by decide⟩

/-- RoundingModesCompared: a dividend on either side. -/
theorem witness_rounding :
    ((2 : Int) ^ 2 ∣ -8) ∧ (-7 : Int) < 0 ∧ ¬ ((2 : Int) ^ 2 ∣ -7) ∧ engineDiv .trunc (-7) 2 = -1 ∧
    engineDiv .floor (-7) 2 = -2 := by decide

/-- AddressMatches; AddressNoMatch in each way. -/
theorem witness_address :
    (started .none).cfg.slvEn = true ∧ 0x76#7 = (started .none).cfg.slvAddr ∧ base.cfg.slvEn = false ∧
    0x77#7 ≠ (started .none).cfg.slvAddr := by decide

/-- WriteByteReceiving at its last BCNT, WriteLastByteReceiving, WriteByteElsewhere, ReadByteTransmitting,
ReadByteElsewhere, StopAndBusError. -/
theorem witness_bytes :
    (started .receiving 2#3).slv.dir = .receiving ∧ (started .receiving 2#3).slv.bcnt.toNat < 3 ∧
    (started .receiving 3#3).slv.bcnt = 3#3 ∧ (started .none).slv.dir = .none ∧
    (started .transmitting 2#3).slv.dir = .transmitting ∧ (started .transmitting 2#3).slv.bcnt.toNat < 3 ∧
    (started .transmitting 3#3).slv.bcnt = 3#3 ∧ (started .receiving 1#3).slv.dir ≠ .none := by decide

/-- WriteTransactionDelivers, from the middle of another transfer; its words are those of the spec's fixture V-S1. -/
theorem witness_writeTransaction :
    let s := State.awaiting (started .transmitting 2#3)
      [0x400000000EC#44, 0x41000000001#44, 0x41000000002#44, 0x41000000003#44, 0x41000000004#44, 0x43000000000#44]
    s.isHeld = true ∧ s.cfg.slvEn = true ∧
    s.env.events = [busEventWord 0#4 (s.cfg.slvAddr ++ 0#1), busEventWord 1#4 1#8, busEventWord 1#4 2#8,
      busEventWord 1#4 3#8, busEventWord 1#4 4#8, busEventWord 3#4 0#8] ++ [] := by decide

/-- ReadTransactionReturnsLatest (V-S6). -/
theorem witness_readTransaction :
    let s := State.awaiting (started .none)
      [0x11C11111111#44, 0x11C22222222#44, 0x400000000ED#44, 0x42000000000#44, 0x42000000000#44, 0x42000000000#44,
       0x42000000000#44, 0x43000000000#44]
    s.isHeld = true ∧ s.cfg.slvEn = true ∧
    s.env.events = [hostWriteWord 7#6 0#2 0x11111111#32, hostWriteWord 7#6 0#2 0x22222222#32,
      busEventWord 0#4 (s.cfg.slvAddr ++ 1#1), busEventWord 2#4 0#8, busEventWord 2#4 0#8, busEventWord 2#4 0#8,
      busEventWord 2#4 0#8, busEventWord 3#4 0#8] ++ [] := by decide

/-- IrqRisesAndFalls: irq rises, and irq falls. -/
theorem witness_irq :
    let s := { started .receiving 3#3 with cfg := { (started .receiving 3#3).cfg with rxIe := true } }
    s.irq = false ∧ gives (exec (.busWbRxLast 4#8) s) (fun t => t.irq) = true ∧
    gives (exec (.hrRxData 0#2) { s with slv := { s.slv with rxReady := true } }) (fun t => !t.irq) = true ∧
    { s with slv := { s.slv with rxReady := true } }.irq = true := by decide

/-- SharingDiscipline: an event that writes nothing, and a read address, which writes TXBUF. -/
theorem witness_sharing :
    Instr.busStop ≠ .reset ∧ exec .busStop base = .next base ∧
    gives (exec (.busAddrRMatch 0x76#7) (started .none 0#3)) (fun t => t.slv.txbuf != (started .none 0#3).slv.txbuf) = true ∧
    (encode (.busAddrRMatch 0x76#7)).getLsbD 0 = true := ⟨by decide, rfl, by decide, by decide⟩

/-- CoordinatorPublishes at the largest count, with and without a valid reading; 95_test_vectors.md 2.8. -/
theorem witness_coordinator :
    4294967295 < 2 ^ Params.default.readCountWidth ∧ BitVec.getLsbD 0x10#32 4 = true ∧ BitVec.getLsbD 0x07#32 4 = false ∧
    coordinator Params.default 4294967295 0x10#32 0xFFF00031#32 0xFFFE07D4#32 =
      ⟨4294967295, some (-500000), some (-50000), some 0xFFF85EE0#32⟩ := by decide

/-- R113's expansions, with the words of R114 and of 95_test_vectors.md 2.1 and 2.6. -/
theorem test_trace_spellings :
    traceStart = [0x10000000001#44] ∧ traceStopSeq = [0x10000000002#44] ∧ traceLoad = [0x10000000004#44] ∧
    traceTicks 2 = [0x30000000000#44, 0x30000000000#44] ∧
    traceBusWrite 0x76#7 0x04030201#32 = [0x400000000EC#44, 0x41000000001#44, 0x41000000002#44, 0x41000000003#44,
      0x41000000004#44, 0x43000000000#44] ∧
    traceBusRead 0x76#7 = [0x400000000ED#44, 0x42000000000#44, 0x42000000000#44, 0x42000000000#44, 0x42000000000#44,
      0x43000000000#44] := by decide

end Sys2Proof.Tests
end

section
/-! The reset event (R340): the value each group of the state takes, what it keeps, and the outputs that follow. -/

namespace Sys2Proof.Machine

open Config

section
variable (s : State)

theorem exec_reset : exec .reset s = .next (resetCore s) := rfl

@[simp] theorem resetCore_seq : (resetCore s).seq = ⟨.idle, 0, 0#24, 0#24, 0#4⟩ := rfl
@[simp] theorem resetCore_ldr :
    (resetCore s).ldr = ⟨⟨0#16, 0#16, 0#16, 0#16, 0#16, 0#16, 0#16⟩, false, false, false, .lIdle, 0#8⟩ := rfl
@[simp] theorem resetCore_reading : (resetCore s).reading = ⟨0#32, 0#32, false⟩ := rfl
@[simp] theorem resetCore_slv : (resetCore s).slv = ⟨.none, 0#3, 0#32, 0#32, 0#32, false, 0#32⟩ := rfl
@[simp] theorem resetCore_cfg :
    (resetCore s).cfg = ⟨false, false, s.params.waitTicksReset, s.params.slaveAddrReset, false⟩ := rfl
@[simp] theorem resetCore_params : (resetCore s).params = s.params := rfl
@[simp] theorem resetCore_env : (resetCore s).env = s.env := rfl
@[simp] theorem resetCore_ports : (resetCore s).ports = s.ports := rfl

/-- RESET brings the core to the power-up state of its own instance (R342). -/
theorem resetCore_eq_resetWith : resetCore s = { State.resetWith s.params with env := s.env, ports := s.ports } := rfl

/-- No received word waits and the interrupt is not enabled (R310). -/
@[simp] theorem resetCore_irq : (resetCore s).irq = false := by simp [State.irq]

/-- Each field of STATUS is 0: every code is that of the first state, and every flag and count is clear (R47). -/
@[simp] theorem resetCore_statusWord : (resetCore s).statusWord = 0#32 := by
  apply BitVec.eq_of_toNat_eq
  rw [statusWord_toNat]
  simp [SeqState.code, LdrPhase.code, SlvDir.code]

end

/-- Settles O59: the state after RESET is `resetCore s`, whose groups and outputs are given by the lemmas above. -/
theorem resetEffect : Obligations.ResetEffect := by
  have default_waitTicks : Params.default.waitTicksReset = 1#8 := rfl
  refine ⟨default_waitTicks, fun s => ⟨resetCore s, exec_reset s, ?_⟩⟩
  exact ⟨resetCore_seq s, resetCore_ldr s, resetCore_reading s, resetCore_slv s, resetCore_cfg s, resetCore_params s,
    resetCore_env s, resetCore_ports s, resetCore_irq s, resetCore_statusWord s, resetCore_eq_resetWith s⟩

end Sys2Proof.Machine
end

section
/-! The byte order of a bus word (R75): the encoded word and the decoded bytes name each other. -/

namespace Sys2Proof.Machine

/-- Encoding the decoded bytes gives the bytes back: lane k of the word is byte k. -/
@[simp] theorem leEncode_leDecode (b0 b1 b2 b3 : Byte) : leEncode (leDecode b0 b1 b2 b3) = [b0, b1, b2, b3] := by
  simp only [leEncode, getLane_leDecode_zero, getLane_leDecode_one, getLane_leDecode_two, getLane_leDecode_three]

/-- Settles O46: the encoded bytes are the four lanes, which make the word; conversely lane k of the decoded bytes is
byte k, and the decoded word as a number gives byte k the weight 2^(8k). -/
theorem littleEndianRoundTrip : Obligations.LittleEndianRoundTrip := by
  refine ⟨fun w => ?_, fun b0 b1 b2 b3 => ?_⟩
  · exact ⟨getLane w 0, getLane w 1, getLane w 2, getLane w 3, rfl, leDecode_getLane w⟩
  · exact ⟨leEncode_leDecode b0 b1 b2 b3, leDecode_toNat b0 b1 b2 b3⟩

end Sys2Proof.Machine
end

section
/-! The reserved operation words (R110) and the never-held state codes (R109): what the decoder refuses, format by format,
and what `step` refuses. -/

namespace Sys2Proof.Machine

/-! ### The decoder by the kind K of the word -/

section
variable {op : OpWord}

theorem decode_reservedKind (h : op.extractLsb' 40 4 = 0#4 ∨ 6 ≤ (op.extractLsb' 40 4).toNat) :
    decode op = .error (.reservedKind (op.extractLsb' 40 4)) := by
  unfold decode
  rcases h with h | h
  · rw [h]; rfl
  · split
    case h_6 => rfl
    all_goals omega

theorem decode_hostWriteKind (h : op.extractLsb' 40 4 = 1#4) :
    decode op = .ok (decodeHostWrite (op.extractLsb' 32 8) (op.extractLsb' 0 32)) := by
  simp [decode, h]

theorem decode_hostReadKind (h : op.extractLsb' 40 4 = 2#4) :
    decode op = if op.extractLsb' 0 32 ≠ 0#32 then .error .hostReadNonzero
      else .ok (decodeHostRead (op.extractLsb' 32 8)) := by
  simp [decode, h]

theorem decode_tickKind (h : op.extractLsb' 40 4 = 3#4) :
    decode op = if op.extractLsb' 0 40 ≠ 0#40 then .error .tickNonzero else .ok .tick := by
  simp [decode, h]

theorem decode_busEventKind (h : op.extractLsb' 40 4 = 4#4) :
    decode op = decodeBusEvent (op.extractLsb' 36 4) (op.extractLsb' 8 28) (op.extractLsb' 0 8) := by
  simp [decode, h]

theorem decode_resetKind (h : op.extractLsb' 40 4 = 5#4) :
    decode op = if op.extractLsb' 0 40 ≠ 0#40 then .error .resetNonzero else .ok .reset := by
  simp [decode, h]

end

/-- The kinds of R100: five formats, and the reserved ones. -/
theorem kind_cases (k : BitVec 4) :
    (k = 0#4 ∨ 6 ≤ k.toNat) ∨ k = 1#4 ∨ k = 2#4 ∨ k = 3#4 ∨ k = 4#4 ∨ k = 5#4 := by
  revert k; decide

/-! ### Which words are refused -/

/-- A format with one check refuses exactly the words that fail it. -/
theorem guarded_refuses_iff {c : Prop} [Decidable c] {e : DecodeError} {i : Instr} :
    (∃ e', (if c then .error e else .ok i : Except DecodeError Instr) = .error e') ↔ c := by
  by_cases h : c <;> simp [h]

/-- Format BE (R104) with R110's conditions: EV, the zero field, and PAY of an event that has none. -/
theorem decodeBusEvent_refuses_iff (ev : BitVec 4) (zero : BitVec 28) (pay : Byte) :
    (∃ e, decodeBusEvent ev zero pay = .error e) ↔
      5 ≤ ev.toNat ∨ zero ≠ 0#28 ∨ (2 ≤ ev.toNat ∧ pay ≠ 0#8) := by
  unfold decodeBusEvent
  by_cases hev : 5 ≤ ev.toNat
  · simp [hev]
  by_cases hzero : zero = 0#28
  · rw [if_neg hev, if_neg (not_not.mpr hzero)]
    split
    case h_1 h => simp [h, hzero]
    case h_2 h => simp [h, hzero]
    case h_3 h0 h1 =>
      have h2 : 2 ≤ ev.toNat := (Nat.two_le_iff _).mpr ⟨h0, h1⟩
      by_cases hpay : pay = 0#8
      · simp [hev, hzero, hpay]; split_ifs <;> simp
      · simp [h2, hpay]
  · simp [hev, hzero]

/-! ### What `step` refuses -/

theorem step_reservedWord {s : State} {op : OpWord} {rest : List OpWord} {e : DecodeError} (hs : s.isHeld = true)
    (hop : s.env.events = op :: rest) (he : decode op = .error e) : step s = .refused (.reservedWord e) := by
  simp [step, hs, hop, he]

theorem step_not_held {s : State} (h : s.isHeld = false) : step s = .refused .neverHeldState := by
  simp [step, h]

/-- SEQ_STATE is held exactly when its code is 0 to 8 (R22). -/
theorem seqState_isHeld_iff_code (x : SeqState) : x.isHeld = true ↔ x.code.toNat ≤ 8 := by
  cases x with
  | reserved k => revert k; decide
  | _ => decide

theorem slvDir_code_eq_three_iff (x : SlvDir) : x.code = 3#2 ↔ x = .reserved := by
  cases x <;> decide

/-- What R109 leaves: SEQ_STATE 0 to 8, SLV_DIR 0 to 2, BCNT 0 to 4. -/
theorem isHeld_iff_codes (s : State) :
    s.isHeld = true ↔ s.seq.state.code.toNat ≤ 8 ∧ s.slv.dir.code ≠ 3#2 ∧ s.slv.bcnt.toNat ≤ 4 := by
  simp [State.isHeld, seqState_isHeld_iff_code, slvDir_code_eq_three_iff, and_assoc]

/-- Settles O4: a case for each kind of word, with its format's checks; `step` passes the decoder's reason on. -/
theorem reservedWordsRefused : Obligations.ReservedWordsRefused := by
  refine fun op => ⟨?_, fun _ _ _ => step_reservedWord⟩
  rcases kind_cases (op.extractLsb' 40 4) with h | h | h | h | h | h
  · exact ⟨fun _ => h.imp_right .inl, fun _ => ⟨_, decode_reservedKind h⟩⟩
  · rw [decode_hostWriteKind h]; simp [h]
  · rw [decode_hostReadKind h, guarded_refuses_iff]; simp [h]
  · rw [decode_tickKind h, guarded_refuses_iff]; simp [h]
  · rw [decode_busEventKind h, decodeBusEvent_refuses_iff]; simp [h]
  · rw [decode_resetKind h, guarded_refuses_iff]; simp [h]

/-- Settles O9: each of the three codes is outside the range that `isHeld_iff_codes` asks for. -/
theorem neverHeldCodesRefused : Obligations.NeverHeldCodesRefused := by
  intro s h
  apply step_not_held
  rw [← Bool.not_eq_true, isHeld_iff_codes]
  rintro ⟨hstate, hdir, hbcnt⟩
  rcases h with h | h | h
  · omega
  · exact hdir h
  · omega

end Sys2Proof.Machine
end

section
/-! A write to CMD (R140 to R144): its three commands as the parts it performs in order, what each part writes, and what the
whole write leaves. -/

namespace Sys2Proof.Machine

section
variable (stop start load : Bool) (s : State)

theorem startAccepted_iff : s.startAccepted = true ↔ s.seq.state = .idle ∧ s.ldr.calValid = true := by
  simp [State.startAccepted]

theorem loadAccepted_iff :
    s.loadAccepted = true ↔ s.ldr.calValid = false ∧ s.ldr.calBusy = false ∧ s.seq.state = .idle := by
  simp [State.loadAccepted, and_assoc]

/-- The SEQ_STOP part of a CMD write (R142). -/
def stopPart : State := if stop then seqStop s else s

/-- The SEQ_START part of a CMD write (R143). -/
def startPart : State := if start && s.startAccepted then seqStart s else s

/-- The CAL_LOAD part of a CMD write (R144). -/
def loadPart : State := if load && s.loadAccepted then calLoad s else s

/-- A CMD write is its three parts in order, and then the record of a refusal (R140, R141). -/
theorem cmdWrite_eq :
    cmdWrite stop start load s =
      setCmdRej
        ((start && !(stopPart stop s).startAccepted) || (load && !(startPart start (stopPart stop s)).loadAccepted))
        (loadPart load (startPart start (stopPart stop s))) := rfl

theorem stopPart_seq :
    (stopPart stop s).seq = if stop = true then { s.seq with state := .idle, waitCnt := 0 } else s.seq := by
  unfold stopPart; split <;> rfl

theorem startPart_seq :
    (startPart start s).seq =
      if start = true ∧ s.startAccepted = true then { s.seq with state := .startP, waitCnt := 0 } else s.seq := by
  simp only [startPart, Bool.and_eq_true]; split <;> rfl

theorem loadPart_ldr :
    (loadPart load s).ldr =
      if load = true ∧ s.loadAccepted = true then
        { s.ldr with calBusy := true, calErr := false, phase := .lReset, cnt := 0#8 }
      else s.ldr := by
  simp only [loadPart, Bool.and_eq_true]; split <;> rfl

/-- The sequencer's commands write the sequencer only. -/
theorem sequencerParts_frame :
    startPart start (stopPart stop s) = { s with seq := (startPart start (stopPart stop s)).seq } := by
  unfold startPart stopPart; split <;> split <;> rfl

/-- The loader's command writes the loader only. -/
theorem loadPart_frame : loadPart load s = { s with ldr := (loadPart load s).ldr } := by
  unfold loadPart; split <;> rfl

/-- SEQ_START, seen after SEQ_STOP, is accepted from IDLE, or with SEQ_STOP from anywhere, if the set is valid (R143). -/
theorem stopPart_startAccepted_iff :
    (stopPart stop s).startAccepted = true ↔
      (if stop = true then SeqState.idle else s.seq.state) = .idle ∧ s.ldr.calValid = true := by
  rw [startAccepted_iff, stopPart_seq]
  cases stop <;> rfl

/-- CAL_LOAD, seen after the sequencer's commands, is accepted by the loader as it was and the sequencer they left (R144). -/
theorem sequencerParts_loadAccepted_iff :
    (startPart start (stopPart stop s)).loadAccepted = true ↔
      s.ldr.calValid = false ∧ s.ldr.calBusy = false ∧ (startPart start (stopPart stop s)).seq.state = .idle := by
  rw [loadAccepted_iff, sequencerParts_frame]

/-- A CMD write changes the sequencer, the loader and CMD_REJ only: each as its part leaves it. -/
theorem cmdWrite_frame :
    cmdWrite stop start load s =
      { s with
        seq := (startPart start (stopPart stop s)).seq
        ldr := (loadPart load (startPart start (stopPart stop s))).ldr
        cfg := { s.cfg with cmdRej := (cmdWrite stop start load s).cfg.cmdRej } } := by
  rw [cmdWrite_eq, loadPart_frame, sequencerParts_frame]; rfl

theorem cmdWrite_seq : (cmdWrite stop start load s).seq = (startPart start (stopPart stop s)).seq := by
  rw [cmdWrite_frame]

theorem cmdWrite_ldr :
    (cmdWrite stop start load s).ldr = (loadPart load (startPart start (stopPart stop s))).ldr := by
  rw [cmdWrite_frame]

/-- CMD_REJ tells whether a command that was asked for was refused (R141). -/
theorem cmdWrite_cmdRej_iff :
    (cmdWrite stop start load s).cfg.cmdRej = true ↔
      (start = true ∧ ¬ (stopPart stop s).startAccepted = true) ∨
      (load = true ∧ ¬ (startPart start (stopPart stop s)).loadAccepted = true) := by
  simp [cmdWrite_eq]

end

/-- Settles O13: `starts` says that the SEQ_START part is taken and `loads` that the CAL_LOAD part is; each group of the
state is then as its part leaves it. -/
theorem cmdWriteEffect : Obligations.CmdWriteEffect := by
  intro lo d s stopped starts
  have starts_iff : starts ↔ d.getLsbD 0 = true ∧ (stopPart (d.getLsbD 1) s).startAccepted = true := by
    rw [stopPart_startAccepted_iff]
  refine ⟨cmdWrite (d.getLsbD 1) (d.getLsbD 0) (d.getLsbD 2) s, rfl, fun h => ?_, fun h hstop => ?_, fun h hstop => ?_,
    ?_, ?_⟩
  · rw [cmdWrite_seq, startPart_seq, if_pos (starts_iff.1 h), stopPart_seq]
    split <;> rfl
  · rw [cmdWrite_seq, startPart_seq, if_neg (mt starts_iff.2 h), stopPart_seq, if_pos hstop]
  · rw [cmdWrite_seq, startPart_seq, if_neg (mt starts_iff.2 h), stopPart_seq, hstop]
    rfl
  · intro loads
    have loads_iff : loads ↔ d.getLsbD 2 = true ∧
        (startPart (d.getLsbD 0) (stopPart (d.getLsbD 1) s)).loadAccepted = true := by
      rw [sequencerParts_loadAccepted_iff, ← cmdWrite_seq]
    refine ⟨fun h => ?_, fun h => ?_, ?_⟩
    · rw [cmdWrite_ldr, loadPart_ldr, if_pos (loads_iff.1 h), sequencerParts_frame]
    · rw [cmdWrite_ldr, loadPart_ldr, if_neg (mt loads_iff.2 h), sequencerParts_frame]
    · rw [cmdWrite_cmdRej_iff, starts_iff, loads_iff]
      exact or_congr (and_congr_right fun h => not_congr (and_iff_right h).symm)
        (and_congr_right fun h => not_congr (and_iff_right h).symm)
  · rw [cmdWrite_frame]
    exact ⟨rfl, rfl, rfl, rfl, rfl, rfl⟩

end Sys2Proof.Machine
end

section
/-! The loader's half of a tick (R170 to R174), row by row. -/

namespace Sys2Proof.Machine

open Config

section
variable {s : State}

theorem exec_tickLIdle (h : s.ldr.phase = .lIdle) : exec .tickLIdle s = .next s := by
  rw [exec_loaderRow (by simp), loaderStep, h, loaderIdle]

theorem exec_tickLReset (h : s.ldr.phase = .lReset) : exec .tickLReset s = .next (loaderReset s) := by
  rw [exec_loaderRow (by simp), loaderStep, h]

theorem exec_tickLWait (h : s.ldr.phase = .lWait) : exec .tickLWait s = .next (loaderWait s) := by
  rw [exec_loaderRow (by simp), loaderStep, h]

theorem exec_tickLProm (h : s.ldr.phase = .lProm) : exec .tickLProm s = .next (loaderProm s) := by
  rw [exec_loaderRow (by simp), loaderStep, h]

end

/-- L_RESET makes one call; its answer chooses what the loader does (R171). -/
theorem loaderReset_eq (s : State) :
    loaderReset s =
      { s.called [.write s.params.cmdReset] with
        ldr := if s.env.answerAt 0 = .fail then { s.ldr with calErr := true, calBusy := false, phase := .lIdle }
               else { s.ldr with cnt := s.params.resetWaitTicks, phase := .lWait } } := by
  rw [loaderReset, sensorWrite_eq]
  by_cases h : s.env.answerAt 0 = .fail
  · simp only [h, if_true]; rfl
  · simp only [h, if_false]; rfl

/-- Settles O24: the one call made, CMD_RESET, decides. -/
theorem loaderResetStep : Obligations.LoaderResetStep := by
  intro s hphase
  rw [exec_tickLReset hphase, loaderReset_eq]
  rfl

/-- Settles O25: the decremented count is 0 exactly at counts 0 and 1. -/
theorem loaderWaitStep : Obligations.LoaderWaitStep := by
  intro s hphase
  rw [exec_tickLWait hphase]
  constructor <;> intro hcnt
  · simp [loaderWait, satdec8_eq_zero.2 hcnt]
  · have count : satdec8 s.ldr.cnt = BitVec.ofNat 8 (s.ldr.cnt.toNat - 1) := by
      rw [← satdec8_toNat, BitVec.ofNat_toNat, BitVec.setWidth_eq]
    have counting : ¬ satdec8 s.ldr.cnt = 0#8 := mt satdec8_eq_zero.1 (by omega)
    simp only [loaderWait, if_neg counting]
    rw [count]

/-! ### L_PROM: seven words together, or the first failing call -/

/-- The word the loader assembles from an answer's bytes is the word that answer gives (R77, R173). -/
theorem promWord_answerBytes (order : PromWordOrder) (a : SensorAnswer) :
    promWord order (answerBytes a) = answeredWord order a := by
  cases a <;> cases order <;> rfl

/-- After a PROM word whose two calls are answered, the next call is made. -/
theorem readPromWord_andThen_answered {β : Type} {cmd : Byte} {s : State} {f : Half → State → Drawn β}
    (h0 : s.env.answerAt 0 ≠ .fail) (h1 : s.env.answerAt 1 ≠ .fail) :
    (readPromWord cmd s).andThen f =
      f (answeredWord s.params.promWordOrder (s.env.answerAt 1)) (s.called [.write cmd, .read 2]) := by
  rw [readPromWord_andThen, if_neg h0, if_neg h1, promWord_answerBytes]

/-- With no failing call among the 14, the seven words are read (R174). -/
theorem readProm_answered {s : State} (h : ∀ n, n < 14 → s.env.answerAt n ≠ .fail) :
    let w (n : Nat) : Half := answeredWord s.params.promWordOrder (s.env.answerAt n)
    readProm s = (some ⟨w 1, w 3, w 5, w 7, w 9, w 11, w 13⟩, s.called (promCalls s.params)) := by
  unfold readProm
  iterate 7 rw [readPromWord_andThen_answered (by simpa using h _ (by decide)) (by simpa using h _ (by decide))]
  simp [promCalls]

/-- The calls from state `s` on stop at the first that fails, with no result and no further call (R160, R174). -/
def StopsAtFirstFail {α : Type} (calls : List SensorCall) (r : Drawn α) (s : State) : Prop :=
  ∀ k, k < calls.length → (∀ n, n < k → s.env.answerAt n ≠ .fail) → s.env.answerAt k = .fail →
    r = (none, s.called (calls.take (k + 1)))

theorem stopsAtFirstFail_nil {α : Type} (r : Drawn α) (s : State) : StopsAtFirstFail [] r s :=
  fun _ hk => absurd hk (Nat.not_lt_zero _)

/-- A PROM word before such calls: the failing call is its write, its read, or one of those that follow. -/
theorem stopsAtFirstFail_readPromWord {β : Type} {calls : List SensorCall} {f : Half → State → Drawn β} (cmd : Byte)
    (s : State) (hf : ∀ w t, StopsAtFirstFail calls (f w t) t) :
    StopsAtFirstFail (.write cmd :: .read 2 :: calls) ((readPromWord cmd s).andThen f) s := by
  intro k hk answered failed
  match k with
  | 0 => simp [readPromWord_andThen, failed]
  | 1 => simp [readPromWord_andThen, answered 0, failed]
  | k + 2 =>
    have shift (n : Nat) : (s.called [.write cmd, .read 2]).env.answerAt n = s.env.answerAt (n + 2) := by
      simp [Nat.add_comm]
    rw [readPromWord_andThen_answered (answered 0 (by omega)) (answered 1 (by omega)), hf _ _ k (by simpa using hk)]
    · simp
    · intro n hn
      rw [shift]
      exact answered _ (by omega)
    · rw [shift, failed]

/-- The first failing call ends the read of the PROM (R174). -/
theorem readProm_stopsAtFirstFail (s : State) : StopsAtFirstFail (promCalls s.params) (readProm s) s := by
  unfold readProm promCalls
  iterate 7 refine stopsAtFirstFail_readPromWord _ _ fun _ _ => ?_
  exact stopsAtFirstFail_nil _ _

/-- Settles O26: the read of the PROM gives the seven words or stops at the first failing call, and the loader commits or
ends the load accordingly. -/
theorem loaderPromStep : Obligations.LoaderPromStep := by
  intro s hphase
  rw [exec_tickLProm hphase, loaderProm]
  constructor
  · intro h w
    rw [readProm_answered h]
    rfl
  · intro k hk answered failed
    rw [readProm_stopsAtFirstFail s k hk answered failed, State.called, List.length_take_of_le (Nat.succ_le_of_lt hk)]
    rfl

end Sys2Proof.Machine
end

section
/-! The tick (R145) and the sequencer's half of it (R150 to R157), row by row. -/

namespace Sys2Proof.Machine

open Config

section
variable {s : State}

theorem exec_tickIdle (h : s.seq.state = .idle) : exec .tickIdle s = .next s := by
  rw [exec_sequencerRow (by simp), sequencerStep, h, seqIdle]

theorem exec_tickStartP (h : s.seq.state = .startP) : exec .tickStartP s = .next (seqStartP s) := by
  rw [exec_sequencerRow (by simp), sequencerStep, h]

theorem exec_tickWaitP (h : s.seq.state = .waitP) : exec .tickWaitP s = .next (seqWaitP s) := by
  rw [exec_sequencerRow (by simp), sequencerStep, h]

theorem exec_tickReadP (h : s.seq.state = .readP) : exec .tickReadP s = .next (seqReadP s) := by
  rw [exec_sequencerRow (by simp), sequencerStep, h]

theorem exec_tickStartT (h : s.seq.state = .startT) : exec .tickStartT s = .next (seqStartT s) := by
  rw [exec_sequencerRow (by simp), sequencerStep, h]

theorem exec_tickWaitT (h : s.seq.state = .waitT) : exec .tickWaitT s = .next (seqWaitT s) := by
  rw [exec_sequencerRow (by simp), sequencerStep, h]

theorem exec_tickReadT (h : s.seq.state = .readT) : exec .tickReadT s = .next (seqReadT s) := by
  rw [exec_sequencerRow (by simp), sequencerStep, h]

theorem exec_tickCalc (h : s.seq.state = .calc) : exec .tickCalc s = .next (seqCalc s) := by
  rw [exec_sequencerRow (by simp), sequencerStep, h]

end

/-- Settles O8: the first row's result is the loader step's, and the second row is the sequencer step. -/
theorem tickIsLoaderThenSequencer : Obligations.TickIsLoaderThenSequencer := by
  intro i j s t hi _ loaded hj _
  rw [exec_loaderRow (by simpa using hi)] at loaded
  have left : loaderStep s = t := Host.Outcome.next.inj loaded
  have sequenced : exec j t = sequencerStep t := exec_sequencerRow (by simpa using hj) t
  rw [sequenced, ← left]
  rfl

/-- Settles O27: each half is its idle rule, and the tick is one after the other. -/
theorem idleStepsChangeNothing : Obligations.IdleStepsChangeNothing := by
  intro s
  refine ⟨exec_tickIdle, exec_tickLIdle, fun hseq hldr => ?_⟩
  rw [tickIsLoaderThenSequencer .tickLIdle .tickIdle s s (by simp) (beq_iff_eq.2 hldr) (exec_tickLIdle hldr) (by simp)
    (beq_iff_eq.2 hseq), exec_tickIdle hseq]

/-! ### START_P and START_T -/

section
variable {s : State} {cmd : Byte} {code : BitVec 4} {wait : SeqState}

theorem startConversion_failed (h : s.env.answerAt 0 = .fail) :
    startConversion cmd code wait s = afterSeqError s code 1 [.write cmd] := by
  rw [startConversion, sensorWrite_eq, if_pos h]
  rfl

theorem startConversion_answered (h : s.env.answerAt 0 ≠ .fail) :
    startConversion cmd code wait s =
      { s.called [.write cmd] with seq := { s.seq with waitCnt := s.settlingCount, state := wait } } := by
  rw [startConversion, sensorWrite_eq, if_neg h]
  rfl

end

/-- Settles O28: both rows are `startConversion`, with their own command, code and Wait state. -/
theorem startConversionSteps : Obligations.StartConversionSteps := by
  intro i now wait code s cmd hrow hnow
  have row : exec i s = .next (startConversion cmd code wait s) := by
    simp only [List.mem_cons, Prod.mk.injEq, List.not_mem_nil, or_false] at hrow
    rcases hrow with ⟨rfl, rfl, rfl, rfl, rfl⟩ | ⟨rfl, rfl, rfl, rfl, rfl⟩
    · exact exec_tickStartP hnow
    · exact exec_tickStartT hnow
  rw [row]
  refine ⟨fun h => ?_, fun h => ⟨s.settlingCount, settlingCount_eq, ?_⟩⟩
  · rw [startConversion_failed h]
  · rw [startConversion_answered h]
    rfl

/-! ### WAIT_P and WAIT_T -/

/-- Settles O29: both rows are `waitConversion`, with their own Read state. -/
theorem waitConversionSteps : Obligations.WaitConversionSteps := by
  intro i now read s hrow hnow
  have row : exec i s = .next (waitConversion read s) := by
    simp only [List.mem_cons, Prod.mk.injEq, List.not_mem_nil, or_false] at hrow
    rcases hrow with ⟨rfl, rfl, rfl⟩ | ⟨rfl, rfl, rfl⟩
    · exact exec_tickWaitP hnow
    · exact exec_tickWaitT hnow
  rw [row]
  constructor <;> intro hcnt
  · have ended : satdec s.seq.waitCnt = 0 := by rw [satdec_eq]; omega
    simp only [waitConversion, ended, if_true]
  · have counting : ¬ satdec s.seq.waitCnt = 0 := by rw [satdec_eq]; omega
    simp only [waitConversion, if_neg counting]
    rw [satdec_eq]

/-! ### READ_P and READ_T -/

/-- The code the sequencer assembles from an answer's bytes is the number they spell, big-endian (R76). -/
theorem adcCode_answerBytes (a : SensorAnswer) : adcCode (answerBytes a) = answeredCode a := by
  cases a with
  | fail => rfl
  | ok b0 b1 b2 =>
    apply BitVec.eq_of_toNat_eq
    have := b0.isLt; have := b1.isLt; have := b2.isLt
    simp only [answerBytes, adcCode, answeredCode]
    erw [toNat_concat, toNat_concat]
    simp only [BitVec.toNat_ofNat]
    omega

/-- What a Read state does with what its calls gave: `done` puts the code in place, a failure raises SeqError(`code`)
(R153, R156). -/
def finishRead (code : BitVec 4) (done : Code24 → Sequencer → Sequencer) (r : Drawn Code24) : State :=
  match r with
  | (none, s') => s'.seqError code
  | (some d, s') => { s' with seq := done d s'.seq }

theorem seqReadP_eq (s : State) :
    seqReadP s = finishRead 3#4 (fun d q => { q with rawD1 := d, state := .startT }) (readAdc s) := rfl

theorem seqReadT_eq (s : State) :
    seqReadT s = finishRead 6#4 (fun d q => { q with rawD2 := d, state := .calc }) (readAdc s) := rfl

section
variable {s : State} {code : BitVec 4} {done : Code24 → Sequencer → Sequencer}

theorem finishRead_writeFailed (h : s.env.answerAt 0 = .fail) :
    finishRead code done (readAdc s) = afterSeqError s code 1 [.write s.params.cmdAdcRead] := by
  rw [readAdc_eq, if_pos h]
  rfl

theorem finishRead_readFailed (h0 : s.env.answerAt 0 ≠ .fail) (h1 : s.env.answerAt 1 = .fail) :
    finishRead code done (readAdc s) = afterSeqError s code 2 [.write s.params.cmdAdcRead, .read 3] := by
  rw [readAdc_eq, if_neg h0, if_pos h1]
  rfl

theorem finishRead_answered (h0 : s.env.answerAt 0 ≠ .fail) (h1 : s.env.answerAt 1 ≠ .fail) :
    finishRead code done (readAdc s) =
      { s.called [.write s.params.cmdAdcRead, .read 3] with seq := done (answeredCode (s.env.answerAt 1)) s.seq } := by
  rw [readAdc_eq, if_neg h0, if_neg h1, adcCode_answerBytes]
  rfl

end

/-- Settles O30: both rows are `finishRead` of the same two calls, with their own code and raw register. -/
theorem readAdcSteps : Obligations.ReadAdcSteps := by
  intro i now code done s hrow hnow
  have row : ∃ place, done = (place · s.seq) ∧ exec i s = .next (finishRead code place (readAdc s)) := by
    rcases hrow with ⟨rfl, rfl, rfl, rfl⟩ | ⟨rfl, rfl, rfl, rfl⟩
    · exact ⟨_, rfl, (exec_tickReadP hnow).trans (congrArg _ (seqReadP_eq s))⟩
    · exact ⟨_, rfl, (exec_tickReadT hnow).trans (congrArg _ (seqReadT_eq s))⟩
  obtain ⟨place, rfl, runs⟩ := row
  rw [runs]
  refine ⟨fun h0 => ?_, fun h0 h1 => ?_, fun h0 h1 => ?_⟩
  · rw [finishRead_writeFailed h0]
  · rw [finishRead_readFailed h0 h1]
  · rw [finishRead_answered h0 h1]
    rfl

/-! ### CALC -/

/-- Settles O31: the engine's results are saturated to 32 bits, so their words read back as they are. -/
theorem calculateStep : Obligations.CalculateStep := by
  intro s hstate
  rw [exec_tickCalc hstate]
  constructor <;> intro hvalid
  · rw [seqCalc, if_neg (by simp [hvalid])]
    rfl
  · refine ⟨_, _, ?_, u32_sat32_toInt _, u32_sat32_toInt _⟩
    rw [seqCalc, if_pos hvalid]
    rfl

end Sys2Proof.Machine
end

section
/-! The compensation engine (R200 to R210): its division in each rounding mode, its clamp, and its formula. -/

namespace Sys2Proof.Machine

open Config

/-! ### The division of the engine (R208) -/

/-- Rounding toward minus infinity is the Euclidean quotient, the divisor being positive. -/
theorem engineDiv_floor (a : Int) (k : Nat) : engineDiv .floor a k = a / 2 ^ k :=
  Int.fdiv_eq_ediv_of_nonneg a (by positivity)

theorem engineDiv_floor_eq_shiftRight (a : Int) (k : Nat) : engineDiv .floor a k = a >>> k := by
  rw [engineDiv_floor, Int.shiftRight_eq_div_pow, Nat.cast_pow, Nat.cast_ofNat]

/-- The dividend lies in the interval of length 2^k that begins at the floor's multiple of 2^k. -/
theorem engineDiv_floor_bounds (a : Int) (k : Nat) :
    engineDiv .floor a k * 2 ^ k ≤ a ∧ a < (engineDiv .floor a k + 1) * 2 ^ k := by
  have hp : (0 : Int) < 2 ^ k := by positivity
  rw [engineDiv_floor]
  exact ⟨Int.ediv_mul_le a hp.ne', Int.lt_ediv_add_one_mul_self a hp⟩

/-- Rounding toward zero acts on the magnitude alone. -/
theorem natAbs_engineDiv_trunc (a : Int) (k : Nat) : (engineDiv .trunc a k).natAbs = a.natAbs / 2 ^ k := by
  rw [engineDiv, Int.natAbs_tdiv, Int.natAbs_pow]
  rfl

theorem abs_engineDiv_trunc_mul_le (a : Int) (k : Nat) : |engineDiv .trunc a k * 2 ^ k| ≤ |a| := by
  rw [Int.abs_eq_natAbs, Int.abs_eq_natAbs, Int.natAbs_mul, natAbs_engineDiv_trunc, Int.natAbs_pow]
  exact_mod_cast Nat.div_mul_le_self a.natAbs (2 ^ k)

/-- What truncation discards is the remainder with the dividend's sign, less than the divisor in magnitude. -/
theorem abs_sub_engineDiv_trunc_mul_lt (a : Int) (k : Nat) : |a - engineDiv .trunc a k * 2 ^ k| < 2 ^ k := by
  have hp : (0 : Int) < 2 ^ k := by positivity
  have remainder : a - engineDiv .trunc a k * 2 ^ k = a.tmod (2 ^ k) := by
    rw [engineDiv, Int.tmod_def, mul_comm]
  rw [remainder, abs_lt]
  exact ⟨Int.lt_tmod_of_pos a hp, Int.tmod_lt_of_pos a hp⟩

section
variable {a : Int} {k : Nat}

theorem engineDiv_trunc_eq_floor (h : 0 ≤ a ∨ (2 : Int) ^ k ∣ a) : engineDiv .trunc a k = engineDiv .floor a k := by
  rw [engineDiv_floor, engineDiv, Int.tdiv_eq_ediv, if_pos h, add_zero]

theorem engineDiv_trunc_eq_floor_add_one (hneg : a < 0) (hdvd : ¬ (2 : Int) ^ k ∣ a) :
    engineDiv .trunc a k = engineDiv .floor a k + 1 := by
  rw [engineDiv_floor, engineDiv, Int.tdiv_eq_ediv, if_neg (not_or.2 ⟨not_le.2 hneg, hdvd⟩),
    Int.sign_eq_one_of_pos (by positivity)]

end

/-- The mode as the condition the formula is written with. -/
theorem engineDiv_eq_ite (mode : DivMode) (a : Int) (k : Nat) :
    engineDiv mode a k = if mode = .trunc then a.tdiv (2 ^ k) else a.fdiv (2 ^ k) := by
  cases mode <;> rfl

/-- Settles O44: each mode's quotient is placed by its remainder, and the two are compared through the Euclidean
quotient. -/
theorem roundingModesCompared : Obligations.RoundingModesCompared := fun a k =>
  ⟨⟨abs_engineDiv_trunc_mul_le a k, abs_sub_engineDiv_trunc_mul_lt a k⟩, engineDiv_floor_bounds a k,
    engineDiv_floor_eq_shiftRight a k, engineDiv_trunc_eq_floor, engineDiv_trunc_eq_floor_add_one⟩

/-! ### The clamp (R13, R203) -/

section
variable {x : Int}

theorem sat32_of_lt (h : x < -2147483648) : sat32 x = -2147483648 := by unfold sat32; omega

theorem sat32_of_gt (h : 2147483647 < x) : sat32 x = 2147483647 := by unfold sat32; omega

theorem sat32_of_inRange (lo : -2147483648 ≤ x) (hi : x ≤ 2147483647) : sat32 x = x := by unfold sat32; omega

end

/-- Settles O43: the engine's quantities are the formula's, the division read through `engineDiv_eq_ite`, and `sat32` is
the clamp on each of its three ranges. -/
theorem compensationFormulas : Obligations.CompensationFormulas := by
  intro mode c d1 d2 div dT temp off sens p clamp
  have clamped (x : Int) : clamp x (sat32 x) := ⟨sat32_of_lt, sat32_of_gt, sat32_of_inRange⟩
  have division (a : Int) (k : Nat) : engineDiv mode a k = div a k := engineDiv_eq_ite mode a k
  have temperature : compTemp mode c d2 = temp := by rw [compTemp, division]; rfl
  have offset : compOff mode c d2 = off := by rw [compOff, division]; rfl
  have sensitivity : compSens mode c d2 = sens := by rw [compSens, division]; rfl
  have pressure : compP mode c d1 d2 = p := by rw [compP, offset, sensitivity, division, division]
  refine ⟨?_, ?_, clamped⟩
  · rw [← pressure]
    exact clamped _
  · rw [← temperature]
    exact clamped _

end Sys2Proof.Machine
end

section
/-! The responder (R220 to R233): each row of a bus event under its condition, and what the event then leaves. -/

namespace Sys2Proof.Machine

/-! ### The address event (R221, R223, R224, R227) -/

section
variable {a7 : BitVec 7} {s : State}

theorem addrMatch_iff : s.addrMatch a7 = true ↔ s.cfg.slvEn = true ∧ a7 = s.cfg.slvAddr := by simp [State.addrMatch]

theorem addrMatch_eq_false_iff : s.addrMatch a7 = false ↔ s.cfg.slvEn = false ∨ a7 ≠ s.cfg.slvAddr := by
  rw [← Bool.not_eq_true, addrMatch_iff, not_and_or, Bool.not_eq_true]

theorem busAddr_write_of_match (h : s.addrMatch a7 = true) : busAddr a7 false s = .next (addrWrite s) := by
  rw [busAddr, if_pos h]; rfl

theorem busAddr_read_of_match (h : s.addrMatch a7 = true) : busAddr a7 true s = .next (addrRead s) := by
  rw [busAddr, if_pos h]; rfl

theorem busAddr_of_noMatch (rw : Bool) (h : s.addrMatch a7 = false) : busAddr a7 rw s = .next (addrNomatch s) := by
  rw [busAddr, h]; rfl

end

/-- Dropping a transfer writes the responder only. -/
theorem dropTransfer_eq (s : State) :
    s.dropTransfer = { s with slv := if s.slv.dir = .none then s.slv else { s.slv with dir := .none, bcnt := 0#3 } } := by
  apply state_eq <;> simp

/-- Settles O47: the condition of both rows is the match alone, so the direction before plays no part. -/
theorem addressMatches : Obligations.AddressMatches := by
  intro a7 s hen haddr
  have hit : s.addrMatch a7 = true := addrMatch_iff.2 ⟨hen, haddr⟩
  exact ⟨(exec_busAddrWMatch a7 s).trans (busAddr_write_of_match hit),
    (exec_busAddrRMatch a7 s).trans (busAddr_read_of_match hit)⟩

/-- Settles O48: without a match, for either reason, the event is a refusal after `dropTransfer`. -/
theorem addressNoMatch : Obligations.AddressNoMatch := by
  intro a7 rw s hmiss
  rw [exec_busAddrNomatch, busAddr_of_noMatch rw (addrMatch_eq_false_iff.2 hmiss), addrNomatch, dropTransfer_eq]
  rfl

/-! ### Written bytes (R225, R226, R228, R229) -/

section
variable {s : State}

theorem exec_busWbRx (b : Byte) (hdir : s.slv.dir = .receiving) (hcnt : s.slv.bcnt.toNat < 3) :
    exec (.busWbRx b) s = .next (writeByte b s) := by
  rw [exec_writeByteRow (b := b) (by simp), busWriteByte, hdir]
  exact if_pos hcnt

theorem exec_busWbRxLast (b : Byte) (hdir : s.slv.dir = .receiving) (hcnt : s.slv.bcnt = 3#3) :
    exec (.busWbRxLast b) s = .next (writeLastByte b s) := by
  rw [exec_writeByteRow (b := b) (by simp), busWriteByte, hdir, hcnt]
  rfl

theorem exec_busWbNone (b : Byte) (hdir : s.slv.dir = .none) : exec (.busWbNone b) s = .next (writeByteNone s) := by
  rw [exec_writeByteRow (b := b) (by simp), busWriteByte, hdir]

theorem exec_busWbTx (b : Byte) (hdir : s.slv.dir = .transmitting) :
    exec (.busWbTx b) s = .next (writeByteTransmitting s) := by
  rw [exec_writeByteRow (b := b) (by simp), busWriteByte, hdir]

end

/-- Settles O49: RXBUF is left as `setLane` writes it, whose lanes `getLane_setLane` reads. -/
theorem writeByteReceiving : Obligations.WriteByteReceiving := fun b _ hdir hcnt =>
  ⟨_, exec_busWbRx b hdir hcnt, fun _ hk => getLane_setLane _ b (hcnt.trans (by decide)) hk⟩

/-- Settles O50: the word is the byte put above the three that RXBUF holds, and each part is read back from it. -/
theorem writeLastByteReceiving : Obligations.WriteLastByteReceiving := fun b s hdir hcnt =>
  ⟨b ++ s.slv.rxbuf.extractLsb' 0 24, BitVec.extractLsb'_append_eq_left, BitVec.extractLsb'_append_eq_right,
    exec_busWbRxLast b hdir hcnt⟩

/-- Settles O51: the two directions in which no byte is taken, each by its row. -/
theorem writeByteElsewhere : Obligations.WriteByteElsewhere := fun b _ => ⟨exec_busWbNone b, exec_busWbTx b⟩

/-! ### Read bytes (R230, R231) -/

section
variable {s : State}

theorem exec_busRbTx (hdir : s.slv.dir = .transmitting) (hcnt : s.slv.bcnt.toNat < 3) :
    exec .busRbTx s = .next (readByte s) := by
  rw [exec_readByteRow (by simp), busReadByte, hdir]
  exact if_pos hcnt

theorem exec_busRbTxLast (hdir : s.slv.dir = .transmitting) (hcnt : s.slv.bcnt = 3#3) :
    exec .busRbTxLast s = .next (readLastByte s) := by
  rw [exec_readByteRow (by simp), busReadByte, hdir, hcnt]
  rfl

theorem exec_busRbNone (hdir : s.slv.dir = .none) : exec .busRbNone s = .next (readByteNone s) := by
  rw [exec_readByteRow (by simp), busReadByte, hdir]

theorem exec_busRbRx (hdir : s.slv.dir = .receiving) : exec .busRbRx s = .next (readByteReceiving s) := by
  rw [exec_readByteRow (by simp), busReadByte, hdir]

end

/-- Settles O52: the byte driven is the lane of TXBUF at BCNT, which is lane 3 for the fourth byte. -/
theorem readByteTransmitting : Obligations.ReadByteTransmitting := by
  intro s hdir
  constructor <;> intro hcnt
  · exact exec_busRbTx hdir hcnt
  · rw [exec_busRbTxLast hdir hcnt, readLastByte, hcnt]
    rfl

/-- Settles O53: the two directions in which OVERRUN_BYTE is driven, each by its row. -/
theorem readByteElsewhere : Obligations.ReadByteElsewhere := fun _ => ⟨exec_busRbNone, exec_busRbRx⟩

/-! ### STOP and BERR (R232, R233) -/

theorem exec_busStop (s : State) : exec .busStop s = .next s.dropTransfer := rfl

theorem exec_busBerr (s : State) : exec .busBerr s = .next s.endTransfer := rfl

/-- Settles O54: STOP drops a transfer only where one is in flight; BERR ends it in every direction. -/
theorem stopAndBusError : Obligations.StopAndBusError := by
  intro s
  refine ⟨fun hdir => ?_, fun hdir => ?_, exec_busBerr s⟩
  · rw [exec_busStop, State.dropTransfer, if_pos hdir]
  · rw [exec_busStop, State.dropTransfer, if_neg hdir]
    rfl

end Sys2Proof.Machine
end

section
/-! The host's registers other than CMD (R260 to R280): what a write leaves, what a read returns, and the two register words
whose fields have places of their own, CFG (R46) and STATUS (R47). -/

namespace Sys2Proof.Machine

/-! ### Writes (R263 to R266) -/

section
variable (lo : BitVec 2) (d : Word) (s : State)

theorem exec_hwCfg : exec (.hwCfg lo d) s = .next (cfgWrite d s) := rfl

theorem exec_hwTxHold : exec (.hwTxHold lo d) s = .next { s with slv := { s.slv with txHold := d } } := rfl

/-- A CFG write changes the configuration and, written with SLV_EN = 0, the transfer in flight; nothing else. -/
theorem cfgWrite_eq :
    cfgWrite d s =
      { s with
        cfg := ⟨d.getLsbD 0, d.getLsbD 1, d.extractLsb' 8 8, d.extractLsb' 16 7, s.cfg.cmdRej⟩
        slv := if d.getLsbD 0 = true then s.slv else { s.slv with dir := .none, bcnt := 0#3 } } := by
  unfold cfgWrite; split <;> rfl

@[simp] theorem cfgWrite_cfg :
    (cfgWrite d s).cfg = ⟨d.getLsbD 0, d.getLsbD 1, d.extractLsb' 8 8, d.extractLsb' 16 7, s.cfg.cmdRej⟩ := by
  rw [cfgWrite_eq]

end

/-- A bit of a field is the word's bit at the field's place. -/
theorem getLsbD_extractLsb'_of_lt {n len j : Nat} (v : BitVec n) (k : Nat) (hj : j < len) :
    (v.extractLsb' k len).getLsbD j = v.getLsbD (k + j) := by
  rw [BitVec.getLsbD_extractLsb', decide_eq_true hj, Bool.true_and]

/-- Settles O16: `cfgWrite_eq` says what the write changes, and the two fields of several bits are read bit by bit. -/
theorem cfgWriteEffect : Obligations.CfgWriteEffect := by
  intro lo d s
  refine ⟨cfgWrite d s, exec_hwCfg lo d s, ?_⟩
  rw [cfgWrite_eq]
  exact ⟨rfl, rfl, fun _ hk => getLsbD_extractLsb'_of_lt d 8 hk, fun _ hk => getLsbD_extractLsb'_of_lt d 16 hk, rfl,
    fun hen => if_pos hen, fun hdis => if_neg (ne_true_of_eq_false hdis), rfl, rfl, rfl, rfl, rfl, rfl⟩

/-- Settles O17: each of the fifteen rows is `ignoredWrite`. -/
theorem ignoredWritesChangeNothing : Obligations.IgnoredWritesChangeNothing := by
  intro lo o6 o7 d i s hi
  have row : exec i s = ignoredWrite d s := by fin_cases hi <;> rfl
  exact row

/-- Settles O18: the row stores the word by its definition. -/
theorem txHoldWriteEffect : Obligations.TxHoldWriteEffect := exec_hwTxHold

/-! ### Reads (R270, R273 to R280) -/

section
variable (lo : BitVec 2) (s : State)

theorem exec_hrCfg : exec (.hrCfg lo) s = .next (s.hostAnswer s.cfgWord) := rfl

theorem exec_hrStatus : exec (.hrStatus lo) s = .next (s.hostAnswer s.statusWord) := rfl

theorem exec_hrRxData :
    exec (.hrRxData lo) s = .next { s.hostAnswer s.slv.rxData with slv := { s.slv with rxReady := false } } := rfl

end

/-- With no received word waiting there is no interrupt (R310). -/
theorem irq_of_not_rxReady {s : State} (h : s.slv.rxReady = false) : s.irq = false := by
  rw [State.irq, h, Bool.false_and]

/-- Settles O19: each of the fifteen rows is `hostAnswer` of the value beside it. -/
theorem hostReadValues : Obligations.HostReadValues := by
  intro lo o6 o7 i v s hrow
  have row : exec i s = .next (s.hostAnswer v) := by fin_cases hrow <;> rfl
  exact row

/-- Settles O22: the row answers with the word and clears RX_READY, and irq follows from that. -/
theorem rxDataReadConsumes : Obligations.RxDataReadConsumes := fun lo s =>
  ⟨_, exec_hrRxData lo s, rfl, irq_of_not_rxReady rfl⟩

/-! ### The fields of CFG and of STATUS (R46, R47, R271, R272) -/

/-- A field of a word from the word's number. -/
theorem extractLsb'_of_toNat {n k len : Nat} {v : BitVec n} {x : BitVec len} (h : v.toNat / 2 ^ k % 2 ^ len = x.toNat) :
    v.extractLsb' k len = x := by
  apply BitVec.eq_of_toNat_eq
  rw [BitVec.extractLsb'_toNat, Nat.shiftRight_eq_div_pow, h]

/-- A reserved field, which adds nothing to the word's number. -/
theorem extractLsb'_eq_zero_of_toNat {n k len : Nat} {v : BitVec n} (h : v.toNat / 2 ^ k % 2 ^ len = 0) :
    v.extractLsb' k len = 0#len := extractLsb'_of_toNat (h.trans BitVec.toNat_zero.symm)

/-- Settles O20: the number of STATUS is the sum of its fields at their weights, each below the weight of the next. -/
theorem statusReadFields : Obligations.StatusReadFields := by
  intro lo s
  have hvalid := s.reading.valid.toNat_le
  have hcalValid := s.ldr.calValid.toNat_le
  have hcalBusy := s.ldr.calBusy.toNat_le
  have hcalErr := s.ldr.calErr.toNat_le
  have hrxReady := s.slv.rxReady.toNat_le
  have hcmdRej := s.cfg.cmdRej.toNat_le
  have hbit23 : false.toNat = 0 := rfl
  have waitCnt_field : s.statusWord.extractLsb' 24 8 = s.waitCntField :=
    extractLsb'_of_toNat (by rw [statusWord_toNat]; omega)
  refine ⟨s.statusWord, exec_hrStatus lo s, extractLsb'_of_toNat ?_, getLsbD_of_toNat ?_, getLsbD_of_toNat ?_,
    getLsbD_of_toNat ?_, getLsbD_of_toNat ?_, extractLsb'_of_toNat ?_, getLsbD_of_toNat ?_, getLsbD_of_toNat ?_,
    extractLsb'_of_toNat ?_, extractLsb'_eq_zero_of_toNat ?_, extractLsb'_of_toNat ?_, extractLsb'_of_toNat ?_,
    getLsbD_of_toNat ?_, by rw [waitCnt_field, waitCntField_toNat]⟩
  all_goals
    rw [statusWord_toNat]
    omega

/-- CFG bit by bit (R46). -/
theorem cfgWord_getLsbD (s : State) (i : Nat) :
    s.cfgWord.getLsbD i =
      if i = 0 then s.cfg.slvEn else if i = 1 then s.cfg.rxIe else if i < 8 then false
      else if i < 16 then s.cfg.waitTicks.getLsbD (i - 8) else s.cfg.slvAddr.getLsbD (i - 16) := by
  unfold State.cfgWord
  erw [BitVec.getLsbD_append, BitVec.getLsbD_append, BitVec.getLsbD_append, BitVec.getLsbD_append, BitVec.getLsbD_append]
  simp only [BitVec.getLsbD_ofBool, BitVec.getLsbD_zero]
  grind

/-- The bits of CFG that are not reserved (R46). -/
theorem cfgMask_getLsbD : ∀ i < 32, (0x007FFF03#32).getLsbD i = decide (i < 2 ∨ 8 ≤ i ∧ i < 23) := by decide

/-- CFG read back after a write is the written value without its reserved bits (R263, R271). -/
theorem cfgWord_cfgWrite (d : Word) (s : State) : (cfgWrite d s).cfgWord = d &&& 0x007FFF03#32 := by
  apply BitVec.eq_of_getLsbD_eq
  intro i hi
  rw [cfgWord_getLsbD, cfgWrite_cfg, BitVec.getLsbD_and, cfgMask_getLsbD i hi]
  -- At the place of a field both sides are bit i of d; everywhere else both are 0.
  simp only [BitVec.getLsbD_extractLsb']
  grind

/-- Settles O21: the number of CFG is the sum of its fields at their weights; a write and a read after it answer with
`cfgWord_cfgWrite`. -/
theorem cfgReadFields : Obligations.CfgReadFields := by
  intro lo lo' s
  refine ⟨⟨s.cfgWord, exec_hrCfg lo s, ?_⟩, fun d t u hwrite hread => ?_⟩
  · have hslvEn := s.cfg.slvEn.toNat_le
    have hrxIe := s.cfg.rxIe.toNat_le
    refine ⟨getLsbD_of_toNat ?_, getLsbD_of_toNat ?_, extractLsb'_eq_zero_of_toNat ?_, extractLsb'_of_toNat ?_,
      extractLsb'_of_toNat ?_, extractLsb'_eq_zero_of_toNat ?_⟩
    all_goals
      rw [cfgWord_toNat]
      omega
  · cases (exec_hwCfg lo d s).symm.trans hwrite
    cases (exec_hrCfg lo' _).symm.trans hread
    exact congrArg some (cfgWord_cfgWrite d s)

end Sys2Proof.Machine
end

section
/-! The interrupt output (R310): what each event makes of `irq`, said once for all events, and so where it rises and
falls. -/

namespace Sys2Proof.Machine

theorem irq_iff (s : State) : s.irq = true ↔ s.slv.rxReady = true ∧ s.cfg.rxIe = true := by simp [State.irq]

/-! ### The shared operations -/

section
variable (s : State)

@[simp] theorem busAnswer_irq (a : BusAnswer) : (s.busAnswer a).irq = s.irq := rfl
@[simp] theorem seqStart_irq : (seqStart s).irq = s.irq := rfl
@[simp] theorem calLoad_irq : (calLoad s).irq = s.irq := rfl
@[simp] theorem setCmdRej_irq (rej : Bool) : (setCmdRej rej s).irq = s.irq := rfl

@[simp] theorem dropTransfer_irq : s.dropTransfer.irq = s.irq := by
  rw [dropTransfer_eq, State.irq]; split <;> rfl

@[simp] theorem cmdWrite_irq (stop start load : Bool) : (cmdWrite stop start load s).irq = s.irq := by
  rw [cmdWrite_frame]; rfl

/-- A CFG write sets RX_IE, and RX_READY stays also where it stops the responder (R263). -/
@[simp] theorem cfgWrite_irq (d : Word) : (cfgWrite d s).irq = (s.slv.rxReady && d.getLsbD 1) := by
  rw [cfgWrite_eq, State.irq]; split <;> rfl

/-- A receive that completes sets RX_READY (R226). -/
@[simp] theorem writeLastByte_irq (b : Byte) : (writeLastByte b s).irq = s.cfg.rxIe := rfl

@[simp] theorem loaderStep_irq : (loaderStep s).irq = s.irq := by
  obtain ⟨_, _, h⟩ := loaderStep_frame s
  rw [h]; rfl

end

/-! ### The events -/

section
variable {s t : State}

theorem sequencerStep_irq (h : sequencerStep s = .next t) : t.irq = s.irq := by
  obtain ⟨_, _, _, rfl⟩ := sequencerStep_frame h
  rfl

theorem busAddr_irq {a7 : BitVec 7} {rw : Bool} (h : busAddr a7 rw s = .next t) : t.irq = s.irq := by
  unfold busAddr at h
  split at h <;> cases h
  · cases rw <;> rfl
  · simp [addrNomatch]

theorem busReadByte_irq (h : busReadByte s = .next t) : t.irq = s.irq := by
  unfold busReadByte at h
  (repeat' split at h) <;> cases h <;> rfl

/-- Of the written bytes only the fourth of a transfer is a receive that completes (R226). -/
theorem busWriteByte_irq_cases {b : Byte} (h : busWriteByte b s = .next t) :
    t.irq = s.irq ∨ (s.slv.dir = .receiving ∧ s.slv.bcnt = 3#3 ∧ t.irq = s.cfg.rxIe) := by
  unfold busWriteByte at h
  split at h
  case h_1 | h_3 => cases h; exact .inl rfl
  case h_2 hdir =>
    split at h
    · cases h; exact .inl rfl
    · split at h <;> cases h
      next hcnt => exact .inr ⟨hdir, BitVec.eq_of_toNat_eq hcnt, writeLastByte_irq s b⟩
  case h_4 => cases h

/-- The first byte of a bus event's word is K and EV (R104). -/
theorem busEventWord_kind_event (ev : BitVec 4) (pay : Byte) :
    (busEventWord ev pay).extractLsb' 36 8 = 0x4#4 ++ ev := by
  apply BitVec.eq_of_toNat_eq
  have := ev.isLt; have := pay.isLt
  rw [toNat_concat, BitVec.extractLsb'_toNat, busEventWord_toNat, Nat.shiftRight_eq_div_pow]
  simp; omega

theorem writeByteRow_irq_cases {i : Instr} {b : Byte}
    (hrow : i = .busWbRx b ∨ i = .busWbRxLast b ∨ i = .busWbNone b ∨ i = .busWbTx b) (h : exec i s = .next t) :
    t.irq = s.irq ∨
      ((encode i).extractLsb' 36 8 = 0x41#8 ∧ s.slv.dir = .receiving ∧ s.slv.bcnt = 3#3 ∧ t.irq = s.cfg.rxIe) := by
  have word : encode i = busEventWord 1#4 b := by rcases hrow with rfl | rfl | rfl | rfl <;> rfl
  rw [exec_writeByteRow hrow] at h
  rw [word, busEventWord_kind_event]
  exact (busWriteByte_irq_cases h).imp_right fun completes => ⟨rfl, completes⟩

/-- Everything an event can make of irq: it stays, or the event is one of the four that write RX_READY or RX_IE. -/
theorem exec_irq_cases {i : Instr} (h : exec i s = .next t) :
    t.irq = s.irq ∨
    ((encode i).extractLsb' 36 8 = 0x41#8 ∧ s.slv.dir = .receiving ∧ s.slv.bcnt = 3#3 ∧ t.irq = s.cfg.rxIe) ∨
    (∃ lo d, i = .hwCfg lo d ∧ t.irq = (s.slv.rxReady && d.getLsbD 1)) ∨
    (((∃ lo, i = .hrRxData lo) ∨ i = .reset) ∧ t.irq = false) := by
  cases i with
  -- the events that write RX_READY or RX_IE
  | hwCfg lo d => cases h; exact .inr (.inr (.inl ⟨lo, d, rfl, cfgWrite_irq s d⟩))
  | hrRxData lo => cases h; exact .inr (.inr (.inr ⟨.inl ⟨lo, rfl⟩, rfl⟩))
  | reset => cases h; exact .inr (.inr (.inr ⟨.inr rfl, resetCore_irq s⟩))
  | busWbRx b | busWbRxLast b | busWbNone b | busWbTx b =>
    exact (writeByteRow_irq_cases (b := b) (by simp) h).imp_right .inl
  -- the other bus events
  | busAddrWMatch a7 => exact .inl (busAddr_irq ((exec_busAddrWMatch a7 s).symm.trans h))
  | busAddrRMatch a7 => exact .inl (busAddr_irq ((exec_busAddrRMatch a7 s).symm.trans h))
  | busAddrNomatch a7 rw => exact .inl (busAddr_irq ((exec_busAddrNomatch a7 rw s).symm.trans h))
  | busRbTx | busRbTxLast | busRbNone | busRbRx =>
    exact .inl (busReadByte_irq ((exec_readByteRow (by simp) s).symm.trans h))
  | busStop => cases h; exact .inl (dropTransfer_irq s)
  -- the ticks
  | tick => exact .inl ((sequencerStep_irq h).trans (loaderStep_irq s))
  | tickLIdle | tickLReset | tickLWait | tickLProm =>
    cases (exec_loaderRow (by simp) s).symm.trans h; exact .inl (loaderStep_irq s)
  | tickIdle | tickStartP | tickWaitP | tickReadP | tickStartT | tickWaitT | tickReadT | tickCalc | tickError =>
    exact .inl (sequencerStep_irq ((exec_sequencerRow (by simp) s).symm.trans h))
  -- the commands that may be refused
  | hwCmd => cases h; exact .inl (cmdWrite_irq s ..)
  | hwCmdSeqStart | hwCmdCalLoad => cases h; left; split <;> simp
  -- BERR, SEQ_STOP and the other host accesses leave both inputs of irq as they are
  | _ => cases h; exact .inl rfl

end

/-- Settles O57: the four events that act on irq, each by its row, and `exec_irq_cases` for the converse. -/
theorem irqRisesAndFalls : Obligations.IrqRisesAndFalls := by
  refine ⟨irq_iff, fun b s hdir hcnt => ⟨_, exec_busWbRxLast b hdir hcnt, writeLastByte_irq s b⟩,
    fun lo d s => ⟨_, exec_hwCfg lo d s, ?_⟩, fun lo s => ⟨_, exec_hrRxData lo s, irq_of_not_rxReady rfl⟩,
    fun s => ⟨_, exec_reset s, resetCore_irq s⟩, fun i s t h => ?_⟩
  · rw [cfgWrite_irq, Bool.and_eq_true, and_comm]
  · obtain same | ⟨word, hdir, hcnt, enabled⟩ | ⟨lo, d, rfl, written⟩ | ⟨cleared, low⟩ := exec_irq_cases h
    · constructor <;> intro before after <;> simp [same, before] at after
    · refine ⟨fun _ after => .inl ⟨word, hdir, hcnt, enabled.symm.trans after⟩, fun before after => ?_⟩
      have stays : t.irq = true := enabled.trans ((irq_iff s).1 before).2
      simp [stays] at after
    · refine ⟨fun _ after => ?_, fun before after => .inr (.inl ⟨lo, d, rfl, ?_⟩)⟩
      · obtain ⟨ready, enable⟩ : s.slv.rxReady = true ∧ d.getLsbD 1 = true := by simpa [written] using after
        exact .inr ⟨lo, d, rfl, enable, ready⟩
      · simpa [written, ((irq_iff s).1 before).1] using after
    · exact ⟨fun _ after => by simp [low] at after, fun _ _ => cleared.imp_right .inr⟩

end Sys2Proof.Machine
end

section
/-! Encoding and decoding there and back (R100 to R107): a word decoded and encoded again, an instruction encoded and decoded
again, format by format. -/

namespace Sys2Proof.Machine

/-! ### Instruction to word to instruction -/

/-- A CMD write that is not one command alone is `hwCmd` (R101). -/
theorem decodeCmd_of_not_oneCommand (lo : BitVec 2) {data : Word} (h : oneCommand data = false) :
    decodeCmd lo data = .hwCmd lo data := by
  have values : ∀ c : BitVec 3, (c == 1#3 || c == 2#3 || c == 4#3) = false → c.toNat ≠ 1 ∧ c.toNat ≠ 2 ∧ c.toNat ≠ 4 := by
    decide
  obtain ⟨h1, h2, h4⟩ := values _ h
  unfold decodeCmd
  split
  case h_4 => rfl
  all_goals contradiction

/-- A host write at 0x40 to 0x7F decodes to its own row, with OFF[5:0] (R265). -/
theorem decodeHostWrite_unmapped40 (off : BitVec 6) (data : Word) :
    decodeHostWrite ((0b01#2 ++ off.extractLsb' 2 4) ++ off.extractLsb' 0 2) data = .hwUnmapped40 off data := by
  have range : ∀ x : BitVec 4, 16 ≤ (0b01#2 ++ x).toNat ∧ (0b01#2 ++ x).toNat < 32 := by decide
  rw [decodeHostWrite_unmapped _ _ (range _).1, if_pos (range _).2, unmapped40_off]

theorem decodeHostWrite_unmapped80 (off : BitVec 7) (data : Word) :
    decodeHostWrite ((0b1#1 ++ off.extractLsb' 2 5) ++ off.extractLsb' 0 2) data = .hwUnmapped80 off data := by
  have range : ∀ x : BitVec 5, 32 ≤ (0b1#1 ++ x).toNat := by decide
  rw [decodeHostWrite_unmapped _ _ (le_trans (by decide) (range _)), if_neg (not_lt.2 (range _)), unmapped80_off]

theorem decodeHostRead_unmapped40 (off : BitVec 6) :
    decodeHostRead ((0b01#2 ++ off.extractLsb' 2 4) ++ off.extractLsb' 0 2) = .hrUnmapped40 off := by
  have range : ∀ x : BitVec 4, 16 ≤ (0b01#2 ++ x).toNat ∧ (0b01#2 ++ x).toNat < 32 := by decide
  rw [decodeHostRead_unmapped _ (range _).1, if_pos (range _).2, unmapped40_off]

theorem decodeHostRead_unmapped80 (off : BitVec 7) :
    decodeHostRead ((0b1#1 ++ off.extractLsb' 2 5) ++ off.extractLsb' 0 2) = .hrUnmapped80 off := by
  have range : ∀ x : BitVec 5, 32 ≤ (0b1#1 ++ x).toNat := by decide
  rw [decodeHostRead_unmapped _ (le_trans (by decide) (range _)), if_neg (not_lt.2 (range _)), unmapped80_off]

/-- An ADDR word decodes to its row at rest, with both parts of PAY (R104). -/
theorem decode_addressWord (a7 : BitVec 7) (rw : Bool) :
    decode (busEventWord 0#4 (a7 ++ BitVec.ofBool rw)) = .ok (.busAddrNomatch a7 rw) := by
  rw [decode_busEventWord]
  have hrw : (a7 ++ BitVec.ofBool rw).getLsbD 0 = rw := by rw [payload_rw]; cases rw <;> rfl
  have ha7 : (a7 ++ BitVec.ofBool rw).extractLsb' 1 7 = a7 := payload_a7 a7 _
  simp only [decodeBusEvent]
  rw [hrw, ha7]
  rfl

theorem decode_writtenByteWord (b : Byte) : decode (busEventWord 1#4 b) = .ok (.busWbNone b) := by
  rw [decode_busEventWord]; rfl

/-- Settles O2: a case for each row, decoded by the lemma of its format. -/
theorem encodedInstructionDecodes : Obligations.EncodedInstructionDecodes := by
  intro i hwf
  cases i with
  | hwCmd lo data =>
    have several : oneCommand data = false := by simpa [Instr.wellFormed] using hwf
    rw [encode, decode_hostWriteWord, decodeHostWrite, off_reg, off_lo]
    exact congrArg Except.ok (decodeCmd_of_not_oneCommand lo several)
  | hwCmdSeqStop lo rsv | hwCmdSeqStart lo rsv | hwCmdCalLoad lo rsv =>
    rw [encode, decode_hostWriteWord, decodeHostWrite, off_reg, off_lo]
    simp only [BitVec.toNat_ofNat, decodeCmd, data_cmd, data_rsv]
    rfl
  | hwUnmapped40 off data => rw [encode, decode_hostWriteWord, decodeHostWrite_unmapped40]; rfl
  | hwUnmapped80 off data => rw [encode, decode_hostWriteWord, decodeHostWrite_unmapped80]; rfl
  | hwCfg lo data | hwStatus lo data | hwPressure lo data | hwTemperature lo data | hwRawD1 lo data | hwRawD2 lo data
  | hwTxHold lo data | hwRxData lo data | hwCal0 lo data | hwCal1 lo data | hwCal2 lo data | hwCal3 lo data
  | hwCal4 lo data | hwCal5 lo data | hwCal6 lo data =>
    rw [encode, decode_hostWriteWord, decodeHostWrite, off_reg, off_lo]
    rfl
  | hrUnmapped40 off => rw [encode, decode_hostReadWord, decodeHostRead_unmapped40]; rfl
  | hrUnmapped80 off => rw [encode, decode_hostReadWord, decodeHostRead_unmapped80]; rfl
  | hrCmd lo | hrCfg lo | hrStatus lo | hrPressure lo | hrTemperature lo | hrRawD1 lo | hrRawD2 lo | hrTxHold lo
  | hrRxData lo | hrCal0 lo | hrCal1 lo | hrCal2 lo | hrCal3 lo | hrCal4 lo | hrCal5 lo | hrCal6 lo =>
    rw [encode, decode_hostReadWord, decodeHostRead, off_reg, off_lo]
    rfl
  | busAddrWMatch a7 => exact decode_addressWord a7 false
  | busAddrRMatch a7 => exact decode_addressWord a7 true
  | busAddrNomatch a7 rw => exact decode_addressWord a7 rw
  | busWbRx b | busWbRxLast b | busWbNone b | busWbTx b => exact decode_writtenByteWord b
  | _ => rfl

/-! ### Word to instruction to word -/

/-- Whatever the command bits, a CMD write is encoded with the DATA it was decoded from (R101). -/
theorem decodeCmd_encode (lo : BitVec 2) (data : Word) :
    (decodeCmd lo data).wellFormed = true ∧ encode (decodeCmd lo data) = hostWriteWord 0#6 lo data := by
  have bits {c : BitVec 3} (h : (data.extractLsb' 0 3).toNat = c.toNat) : data.extractLsb' 3 29 ++ c = data :=
    data_split (BitVec.eq_of_toNat_eq h)
  unfold decodeCmd
  split
  case h_1 h => exact ⟨rfl, congrArg (hostWriteWord 0#6 lo) (bits (c := 1#3) h)⟩
  case h_2 h => exact ⟨rfl, congrArg (hostWriteWord 0#6 lo) (bits (c := 2#3) h)⟩
  case h_3 h => exact ⟨rfl, congrArg (hostWriteWord 0#6 lo) (bits (c := 4#3) h)⟩
  case h_4 h1 h2 h4 =>
    have several : oneCommand data = false := by
      simp only [oneCommand, Bool.or_eq_false_iff, beq_eq_false_iff_ne]
      exact ⟨⟨fun h => h1 (by rw [h]; rfl), fun h => h2 (by rw [h]; rfl)⟩, fun h => h4 (by rw [h]; rfl)⟩
    exact ⟨by simp [Instr.wellFormed, several], rfl⟩

/-- The offsets of the two unmapped ranges, taken apart as their rows do and put together again as their words do. -/
theorem unmapped40_split : ∀ (reg : BitVec 6) (lo : BitVec 2), 16 ≤ reg.toNat → reg.toNat < 32 →
    0b01#2 ++ ((reg ++ lo).extractLsb' 0 6).extractLsb' 2 4 = reg ∧ ((reg ++ lo).extractLsb' 0 6).extractLsb' 0 2 = lo := by
  decide

theorem unmapped80_split : ∀ (reg : BitVec 6) (lo : BitVec 2), 32 ≤ reg.toNat →
    0b1#1 ++ ((reg ++ lo).extractLsb' 0 7).extractLsb' 2 5 = reg ∧ ((reg ++ lo).extractLsb' 0 7).extractLsb' 0 2 = lo := by
  decide

/-- A host write is encoded with the OFF and DATA it was decoded from (R101). -/
theorem decodeHostWrite_encode (reg : BitVec 6) (lo : BitVec 2) (data : Word) :
    (decodeHostWrite (reg ++ lo) data).wellFormed = true ∧
      encode (decodeHostWrite (reg ++ lo) data) = hostWriteWord reg lo data := by
  by_cases unmapped : 16 ≤ reg.toNat
  · rw [decodeHostWrite_unmapped lo data unmapped]
    split
    · obtain ⟨hreg, hlo⟩ := unmapped40_split reg lo unmapped (by assumption)
      exact ⟨rfl, by rw [encode, hreg, hlo]⟩
    · obtain ⟨hreg, hlo⟩ := unmapped80_split reg lo (by omega)
      exact ⟨rfl, by rw [encode, hreg, hlo]⟩
  · have hreg : reg = BitVec.ofNat 6 reg.toNat := by simp
    generalize reg.toNat = n at unmapped hreg
    subst hreg
    rw [decodeHostWrite, off_reg, off_lo]
    interval_cases n
    · exact decodeCmd_encode lo data
    all_goals exact ⟨rfl, rfl⟩

/-- A host read is encoded with the OFF it was decoded from (R102). -/
theorem decodeHostRead_encode (reg : BitVec 6) (lo : BitVec 2) :
    (decodeHostRead (reg ++ lo)).wellFormed = true ∧ encode (decodeHostRead (reg ++ lo)) = hostReadWord reg lo := by
  by_cases unmapped : 16 ≤ reg.toNat
  · rw [decodeHostRead_unmapped lo unmapped]
    split
    · obtain ⟨hreg, hlo⟩ := unmapped40_split reg lo unmapped (by assumption)
      exact ⟨rfl, by rw [encode, hreg, hlo]⟩
    · obtain ⟨hreg, hlo⟩ := unmapped80_split reg lo (by omega)
      exact ⟨rfl, by rw [encode, hreg, hlo]⟩
  · have hreg : reg = BitVec.ofNat 6 reg.toNat := by simp
    generalize reg.toNat = n at unmapped hreg
    subst hreg
    rw [decodeHostRead, off_reg, off_lo]
    interval_cases n <;> exact ⟨rfl, rfl⟩

/-- A bus event that decodes has no bit set in its zero field, and is encoded with the EV and PAY it was decoded from (R104). -/
theorem decodeBusEvent_encode {ev : BitVec 4} {zero : BitVec 28} {pay : Byte} {i : Instr}
    (h : decodeBusEvent ev zero pay = .ok i) : zero = 0#28 ∧ i.wellFormed = true ∧ encode i = busEventWord ev pay := by
  have hev (n : Nat) (hn : ev.toNat = n) : ev = BitVec.ofNat 4 n := by simp [← hn]
  unfold decodeBusEvent at h
  split at h
  · cases h
  next hlt =>
  split at h
  · cases h
  next hzero =>
  refine ⟨not_not.1 hzero, ?_⟩
  split at h
  case h_1 h0 =>
    cases h
    rw [hev 0 h0]
    exact ⟨rfl, congrArg (busEventWord 0#4) (payload_split pay)⟩
  case h_2 h1 =>
    cases h
    rw [hev 1 h1]
    exact ⟨rfl, rfl⟩
  case h_3 h0 h1 =>
    split at h
    · cases h
    next hpay =>
    rw [not_not.1 hpay]
    split at h
    next h2 => cases h; rw [hev 2 h2]; exact ⟨rfl, rfl⟩
    split at h
    next h3 => cases h; rw [hev 3 h3]; exact ⟨rfl, rfl⟩
    next h2 h3 =>
      have h4 : ev.toNat = 4 := by have := (Nat.two_le_iff _).2 ⟨h0, h1⟩; omega
      cases h; rw [hev 4 h4]; exact ⟨rfl, rfl⟩

/-- A format with one check answers its instruction only for words that pass it. -/
theorem guarded_eq_ok {c : Prop} [Decidable c] {e : DecodeError} {i j : Instr}
    (h : (if c then .error e else .ok i : Except DecodeError Instr) = .ok j) : ¬ c ∧ i = j := by
  split at h <;> cases h
  exact ⟨by assumption, rfl⟩

/-- Settles O3: a case for each kind of word; what the format's checks leave is a word of the format. -/
theorem decodedWordIsReencoded : Obligations.DecodedWordIsReencoded := by
  intro op i h
  rcases kind_cases (op.extractLsb' 40 4) with hk | hk | hk | hk | hk | hk
  · rw [decode_reservedKind hk] at h; cases h
  · rw [decode_hostWriteKind hk, off_split] at h
    cases h
    obtain ⟨hwf, hword⟩ := decodeHostWrite_encode (op.extractLsb' 34 6) (op.extractLsb' 32 2) (op.extractLsb' 0 32)
    exact ⟨hwf, hword.trans (eq_hostWriteWord hk).symm⟩
  · rw [decode_hostReadKind hk, off_split] at h
    obtain ⟨hzero, rfl⟩ := guarded_eq_ok h
    obtain ⟨hwf, hword⟩ := decodeHostRead_encode (op.extractLsb' 34 6) (op.extractLsb' 32 2)
    exact ⟨hwf, hword.trans (eq_hostReadWord hk (not_not.1 hzero)).symm⟩
  · rw [decode_tickKind hk] at h
    obtain ⟨hzero, rfl⟩ := guarded_eq_ok h
    exact ⟨rfl, (eq_tickWord hk (not_not.1 hzero)).symm⟩
  · rw [decode_busEventKind hk] at h
    obtain ⟨hzero, hwf, hword⟩ := decodeBusEvent_encode h
    exact ⟨hwf, hword.trans (eq_busEventWord hk hzero).symm⟩
  · rw [decode_resetKind hk] at h
    obtain ⟨hzero, rfl⟩ := guarded_eq_ok h
    exact ⟨rfl, (eq_resetWord hk (not_not.1 hzero)).symm⟩

end Sys2Proof.Machine
end

section
/-! One word, one meaning (R107): the rows that share a word run one rule, whether the decoder or the state names the row. -/

namespace Sys2Proof.Machine

/-! ### CMD writes (R140 to R144) -/

section
variable (lo : BitVec 2) (rsv : BitVec 29) (d : Word) (s : State)

theorem exec_hwCmd :
    exec (.hwCmd lo d) s = .next (cmdWrite (d.getLsbD 1) (d.getLsbD 0) (d.getLsbD 2) s) := rfl

theorem exec_hwCmdSeqStop : exec (.hwCmdSeqStop lo rsv) s = .next (cmdWrite true false false s) := rfl

theorem exec_hwCmdSeqStart : exec (.hwCmdSeqStart lo rsv) s = .next (cmdWrite false true false s) := by
  rw [exec, execHwCmdSeqStart, cmdWrite]
  by_cases h : s.startAccepted = true <;> simp [h]

theorem exec_hwCmdCalLoad : exec (.hwCmdCalLoad lo rsv) s = .next (cmdWrite false false true s) := by
  rw [exec, execHwCmdCalLoad, cmdWrite]
  by_cases h : s.loadAccepted = true <;> simp [h]

/-- The row of one command does what R140 does with that bit alone. -/
theorem exec_decodeCmd : exec (decodeCmd lo d) s = exec (.hwCmd lo d) s := by
  have bit {k : Nat} (hk : k < 3) : d.getLsbD k = (d.extractLsb' 0 3).getLsbD k := by
    rw [getLsbD_extractLsb'_of_lt d 0 hk, Nat.zero_add]
  have several {c : BitVec 3} (h : (d.extractLsb' 0 3).toNat = c.toNat) :
      exec (.hwCmd lo d) s = .next (cmdWrite (c.getLsbD 1) (c.getLsbD 0) (c.getLsbD 2) s) := by
    rw [exec_hwCmd, bit (k := 0) (by decide), bit (k := 1) (by decide), bit (k := 2) (by decide), BitVec.eq_of_toNat_eq h]
  unfold decodeCmd
  split
  case h_1 h => exact (exec_hwCmdSeqStart ..).trans (several (c := 1#3) h).symm
  case h_2 h => exact (exec_hwCmdSeqStop ..).trans (several (c := 2#3) h).symm
  case h_3 h => exact (exec_hwCmdCalLoad ..).trans (several (c := 4#3) h).symm
  case h_4 => rfl

end

/-- Settles O14: each row is `cmdWrite` of its bit, which goes by the acceptance of its command. -/
theorem singleCommandEffects : Obligations.SingleCommandEffects := by
  intro lo rsv s rejected
  have start_row : exec (.hwCmdSeqStart lo rsv) s =
      .next (if s.startAccepted then setCmdRej false (seqStart s) else setCmdRej true s) := rfl
  have load_row : exec (.hwCmdCalLoad lo rsv) s =
      .next (if s.loadAccepted then setCmdRej false (calLoad s) else setCmdRej true s) := rfl
  refine ⟨rfl, fun h => ?_, fun h => ?_, fun h => ?_, fun h => ?_⟩
  · rw [start_row, if_pos (startAccepted_iff s |>.2 h)]; rfl
  · have refused : ¬ s.startAccepted = true := by
      rw [startAccepted_iff, not_and_or, Bool.not_eq_true]; exact h
    rw [start_row, if_neg refused]; rfl
  · rw [load_row, if_pos (loadAccepted_iff s |>.2 h)]; rfl
  · have refused : ¬ s.loadAccepted = true := by
      rw [loadAccepted_iff, not_and_or, not_and_or, Bool.not_eq_false, Bool.not_eq_false]; exact h
    rw [load_row, if_neg refused]; rfl

/-! ### The row the decoder answers -/

/-- Executing the row the decoder answers is executing the event, the halves of a tick apart (R107). -/
theorem exec_canonical {i : Instr} (h : isTickHalf i = false) (s : State) : exec (canonical i) s = exec i s := by
  cases i with
  | busAddrWMatch a7 => exact (exec_busAddrNomatch a7 false s).trans (exec_busAddrWMatch a7 s).symm
  | busAddrRMatch a7 => exact (exec_busAddrNomatch a7 true s).trans (exec_busAddrRMatch a7 s).symm
  | busWbRx b | busWbRxLast b | busWbTx b =>
    exact (exec_writeByteRow (i := .busWbNone b) (b := b) (by simp) s).trans (exec_writeByteRow (by simp) s).symm
  | busRbTx | busRbTxLast | busRbRx =>
    exact (exec_readByteRow (i := .busRbNone) (by simp) s).trans (exec_readByteRow (by simp) s).symm
  | tickLIdle | tickLReset | tickLWait | tickLProm | tickIdle | tickStartP | tickWaitP | tickReadP | tickStartT | tickWaitT
  | tickReadT | tickCalc | tickError => cases h
  | _ => rfl

/-- Every word an instruction spells decodes, well-formed or not, to a row with the instruction's meaning. -/
theorem decode_encode_exec {i : Instr} (h : isTickHalf i = false) :
    ∃ k, decode (encode i) = .ok k ∧ ∀ s, exec k s = exec i s := by
  by_cases hwf : i.wellFormed = true
  · exact ⟨canonical i, encodedInstructionDecodes i hwf, exec_canonical h⟩
  · cases i with
    | hwCmd lo d =>
      refine ⟨decodeCmd lo d, ?_, exec_decodeCmd lo d⟩
      rw [encode, decode_hostWriteWord, decodeHostWrite, off_reg, off_lo]
      rfl
    | _ => exact absurd rfl hwf

/-- Settles O7: both instructions have the meaning of the one row their word decodes to. -/
theorem oneWordOneMeaning : Obligations.OneWordOneMeaning := by
  intro i j s hi hj hword
  obtain ⟨k, hk, ik⟩ := decode_encode_exec hi
  obtain ⟨l, hl, jl⟩ := decode_encode_exec hj
  have same : k = l := Except.ok.inj (hk.symm.trans ((congrArg decode hword).trans hl))
  rw [← ik, same, jl]

/-! ### The row the state selects -/

section
variable (i : Instr) (s : State)

theorem encode_selectRow : encode (selectRow i s) = encode i := by
  cases i with
  | busAddrNomatch a7 rw => simp only [selectRow]; split <;> cases rw <;> rfl
  | busWbNone b | busRbNone => simp only [selectRow]; (repeat' split) <;> rfl
  | _ => rfl

theorem exec_selectRow : exec (selectRow i s) s = exec i s := by
  cases i with
  | busAddrNomatch a7 rw =>
    rw [exec_busAddrNomatch]
    simp only [selectRow]
    split
    · cases rw
      · exact exec_busAddrWMatch a7 s
      · exact exec_busAddrRMatch a7 s
    · exact exec_busAddrNomatch a7 rw s
  | busWbNone b =>
    rw [exec_writeByteRow (i := .busWbNone b) (b := b) (by simp)]
    simp only [selectRow]
    (repeat' split) <;> exact exec_writeByteRow (by simp) s
  | busRbNone =>
    rw [exec_readByteRow (i := .busRbNone) (by simp)]
    simp only [selectRow]
    (repeat' split) <;> exact exec_readByteRow (by simp) s
  | _ => rfl

end

section
variable {op : OpWord} {i : Instr}

theorem encode_of_decode (h : decode op = .ok i) : encode i = op := (decodedWordIsReencoded op i h).2

/-- The decoder answers rows that it reads back as themselves only. -/
theorem canonical_of_decode (h : decode op = .ok i) : canonical i = i := by
  obtain ⟨hwf, hword⟩ := decodedWordIsReencoded op i h
  have again := encodedInstructionDecodes i hwf
  rw [hword, h] at again
  exact (Except.ok.inj again).symm

theorem isTickHalf_of_decode (h : decode op = .ok i) : isTickHalf i = false := by
  have hcanon := canonical_of_decode h
  cases i with
  | tickLIdle | tickLReset | tickLWait | tickLProm | tickIdle | tickStartP | tickWaitP | tickReadP | tickStartT | tickWaitT
  | tickReadT | tickCalc | tickError => cases hcanon
  | _ => rfl

end

/-- BCNT in a transfer is 3 or below it (R33). -/
theorem CoreInv.bcnt_lt_three {s : State} (h : CoreInv s) (hdir : s.slv.dir ≠ .none) (h3 : s.slv.bcnt ≠ 3#3) :
    s.slv.bcnt.toNat < 3 :=
  lt_of_le_of_ne (h.transferCount hdir) fun e => h3 (BitVec.eq_of_toNat_eq e)

/-- The row selected for a decoded event is the one whose condition holds (R107). -/
theorem rowCondition_selectRow {i : Instr} {s : State} (hcanon : canonical i = i) (h : CoreInv s) :
    rowCondition (selectRow i s) s = true := by
  cases i with
  | busAddrNomatch a7 rw =>
    simp only [selectRow]
    cases hit : s.addrMatch a7 <;> cases rw <;> simp [rowCondition, hit]
  | busWbNone b =>
    cases hdir : s.slv.dir with
    | none | transmitting => simp [selectRow, rowCondition, hdir]
    | receiving =>
      have count := h.bcnt_lt_three (by simp [hdir])
      by_cases h3 : s.slv.bcnt = 3#3 <;> simp [selectRow, rowCondition, hdir, h3, count]
    | reserved => exact absurd hdir h.dirHeld
  | busRbNone =>
    cases hdir : s.slv.dir with
    | none | receiving => simp [selectRow, rowCondition, hdir]
    | transmitting =>
      have count := h.bcnt_lt_three (by simp [hdir])
      by_cases h3 : s.slv.bcnt = 3#3 <;> simp [selectRow, rowCondition, hdir, h3, count]
    | reserved => exact absurd hdir h.dirHeld
  | tickLIdle | tickLReset | tickLWait | tickLProm | tickIdle | tickStartP | tickWaitP | tickReadP | tickStartT | tickWaitT
  | tickReadT | tickCalc | tickError | busAddrWMatch | busAddrRMatch | busWbRx | busWbRxLast | busWbTx | busRbTx | busRbTxLast
  | busRbRx => cases hcanon
  | _ => rfl

/-- Settles O6: the decoded row is one the decoder reads back as itself, and the state selects among its word's rows. -/
theorem selectedRowIsTheRulesRow : Obligations.SelectedRowIsTheRulesRow := by
  intro op i s h hinv
  exact ⟨(encode_selectRow i s).trans (encode_of_decode h), rowCondition_selectRow (canonical_of_decode h) hinv,
    exec_selectRow i s⟩

/-! ### The step -/

/-- The codes that are held: SEQ_STATE 0 to 8, SLV_DIR 0 to 2, BCNT 0 to 4 (R109). -/
theorem isHeld_iff (s : State) :
    s.isHeld = true ↔ s.seq.state.isHeld = true ∧ s.slv.dir ≠ .reserved ∧ s.slv.bcnt.toNat ≤ 4 := by
  simp [State.isHeld, and_assoc]

section
variable {s : State} {op : OpWord} {rest : List OpWord} {i : Instr}

/-- A step executes the next word's event, whichever of its rows is named. -/
theorem step_of_decode (hs : s.isHeld = true) (hop : s.env.events = op :: rest) (hi : decode op = .ok i) :
    step s = exec i (s.takeEvent rest) := by
  rw [← exec_selectRow, selectRow_takeEvent, step, if_pos hs, hop]
  simp only [hi]

theorem step_noEvent (hs : s.isHeld = true) (hop : s.env.events = []) : step s = .next s := by
  rw [step, if_pos hs, hop]

end

/-- Settles O5: `step_of_decode` with the row the state selects. -/
theorem stepRunsTheDecodedRow : Obligations.StepRunsTheDecodedRow := by
  refine ⟨fun s op rest i hs hop hi => ?_, fun s => step_noEvent⟩
  rw [step_of_decode hs hop hi, ← exec_selectRow, selectRow_takeEvent]
  rfl

/-- Settles O1: the decoder run on each of the thirteen words. -/
theorem exampleWordsDecode : Obligations.ExampleWordsDecode := by
  unfold Obligations.ExampleWordsDecode
  decide

end Sys2Proof.Machine
end

section
/-! What an event can do, said once for every instruction by the kind of its word, and what follows: which events write which
part of the state (R141, R360), reads without side effect (R80). -/

namespace Sys2Proof.Machine

/-! ### More fields of the words -/

@[simp] theorem hostWriteWord_reg (reg : BitVec 6) (lo : BitVec 2) (data : Word) :
    (hostWriteWord reg lo data).extractLsb' 34 6 = reg := by
  apply BitVec.eq_of_toNat_eq
  have := reg.isLt; have := lo.isLt; have := data.isLt
  simp [hostWriteWord_toNat, Nat.shiftRight_eq_div_pow]; omega

@[simp] theorem hostReadWord_reg (reg : BitVec 6) (lo : BitVec 2) : (hostReadWord reg lo).extractLsb' 34 6 = reg := by
  apply BitVec.eq_of_toNat_eq
  have := reg.isLt; have := lo.isLt
  simp [hostReadWord_toNat, Nat.shiftRight_eq_div_pow]; omega

theorem hostWriteWord_kind_reg (reg : BitVec 6) (lo : BitVec 2) (data : Word) :
    (hostWriteWord reg lo data).extractLsb' 34 10 = 1#4 ++ reg := by
  apply BitVec.eq_of_toNat_eq
  have := reg.isLt; have := lo.isLt; have := data.isLt
  erw [toNat_concat]
  simp [hostWriteWord_toNat, Nat.shiftRight_eq_div_pow]; omega

/-- The lowest bit of an ADDR word is RW (R104). -/
@[simp] theorem addressWord_rw (a7 : BitVec 7) (rw : Bool) : (busEventWord 0#4 (a7 ++ BitVec.ofBool rw))[0] = rw := by
  rw [← BitVec.getLsbD_eq_getElem]
  unfold busEventWord
  erw [BitVec.getLsbD_append, payload_rw]
  cases rw <;> rfl

@[simp] theorem tickWord_kind : tickWord.extractLsb' 40 4 = 3#4 := rfl

@[simp] theorem resetWord_kind : resetWord.extractLsb' 40 4 = 5#4 := rfl

/-! ### The effect of an event -/

/-- What the event that `i` spells can leave of `s`: for each kind of word, the operation that runs. -/
inductive EventEffect (i : Instr) (s t : State) : Prop
  /-- a CMD write, with some of the command bits (R140) -/
  | command (lo : BitVec 2) (d : Word) (stop start load : Bool) (word : encode i = hostWriteWord 0#6 lo d)
      (next : t = cmdWrite stop start load s)
  /-- a CFG write (R263) -/
  | config (lo : BitVec 2) (d : Word) (word : encode i = hostWriteWord 1#6 lo d) (next : t = cfgWrite d s)
  /-- a TX_HOLD write (R266) -/
  | publish (lo : BitVec 2) (d : Word) (word : encode i = hostWriteWord 7#6 lo d)
      (next : t = { s with slv := { s.slv with txHold := d } })
  /-- any other host write (R264, R265) -/
  | ignored (next : t = s)
  /-- a host read but that of RX_DATA (R270 to R280) -/
  | answered (reg : BitVec 6) (lo : BitVec 2) (v : Word) (word : encode i = hostReadWord reg lo) (next : t = s.hostAnswer v)
  /-- a read of RX_DATA (R275) -/
  | consumed (lo : BitVec 2) (word : encode i = hostReadWord 8#6 lo)
      (next : t = { s.hostAnswer s.slv.rxData with slv := { s.slv with rxReady := false } })
  /-- a tick (R145) -/
  | tick (word : encode i = tickWord) (next : sequencerStep (loaderStep s) = .next t)
  /-- the loader's half of a tick (R170) -/
  | loaderHalf (half : isTickHalf i = true) (word : encode i = tickWord) (next : t = loaderStep s)
  /-- the sequencer's half of a tick (R145) -/
  | sequencerHalf (half : isTickHalf i = true) (word : encode i = tickWord) (next : sequencerStep s = .next t)
  /-- an address event (R221) -/
  | address (a7 : BitVec 7) (rw : Bool) (word : encode i = busEventWord 0#4 (a7 ++ BitVec.ofBool rw))
      (next : busAddr a7 rw s = .next t)
  /-- a byte written by the master (R225 to R229) -/
  | byteWritten (b : Byte) (word : encode i = busEventWord 1#4 b) (next : busWriteByte b s = .next t)
  /-- a byte read by the master (R230, R231) -/
  | byteRead (word : encode i = busEventWord 2#4 0#8) (next : busReadByte s = .next t)
  /-- the stop condition (R232) -/
  | stop (word : encode i = busEventWord 3#4 0#8) (next : t = s.dropTransfer)
  /-- a bus error (R233) -/
  | busError (word : encode i = busEventWord 4#4 0#8) (next : t = s.endTransfer)
  /-- reset (R340) -/
  | reset (row : i = .reset) (next : t = resetCore s)

/-- Every row has the effect of its event. -/
theorem exec_effect {i : Instr} {s t : State} (h : exec i s = .next t) : EventEffect i s t := by
  cases i with
  | hwCmd lo d => cases h; exact .command _ _ _ _ _ rfl rfl
  | hwCmdSeqStop lo rsv => cases h; exact .command _ _ true false false rfl rfl
  | hwCmdSeqStart lo rsv => cases (exec_hwCmdSeqStart lo rsv s).symm.trans h; exact .command _ _ _ _ _ rfl rfl
  | hwCmdCalLoad lo rsv => cases (exec_hwCmdCalLoad lo rsv s).symm.trans h; exact .command _ _ _ _ _ rfl rfl
  | hwCfg lo d => cases h; exact .config _ _ rfl rfl
  | hwTxHold lo d => cases h; exact .publish _ _ rfl rfl
  | hwStatus | hwPressure | hwTemperature | hwRawD1 | hwRawD2 | hwRxData | hwCal0 | hwCal1 | hwCal2 | hwCal3 | hwCal4
  | hwCal5 | hwCal6 | hwUnmapped40 | hwUnmapped80 => cases h; exact .ignored rfl
  | hrRxData lo => cases h; exact .consumed _ rfl rfl
  | hrCmd | hrCfg | hrStatus | hrPressure | hrTemperature | hrRawD1 | hrRawD2 | hrTxHold | hrCal0 | hrCal1 | hrCal2 | hrCal3
  | hrCal4 | hrCal5 | hrCal6 | hrUnmapped40 | hrUnmapped80 => cases h; exact .answered _ _ _ rfl rfl
  | tick => exact .tick rfl h
  | tickLIdle | tickLReset | tickLWait | tickLProm =>
    cases (exec_loaderRow (by simp) s).symm.trans h; exact .loaderHalf rfl rfl rfl
  | tickIdle | tickStartP | tickWaitP | tickReadP | tickStartT | tickWaitT | tickReadT | tickCalc | tickError =>
    exact .sequencerHalf rfl rfl ((exec_sequencerRow (by simp) s).symm.trans h)
  | busAddrWMatch a7 => exact .address a7 false rfl ((exec_busAddrWMatch a7 s).symm.trans h)
  | busAddrRMatch a7 => exact .address a7 true rfl ((exec_busAddrRMatch a7 s).symm.trans h)
  | busAddrNomatch a7 rw => exact .address a7 rw rfl ((exec_busAddrNomatch a7 rw s).symm.trans h)
  | busWbRx b | busWbRxLast b | busWbNone b | busWbTx b =>
    exact .byteWritten b rfl ((exec_writeByteRow (by simp) s).symm.trans h)
  | busRbTx | busRbTxLast | busRbNone | busRbRx => exact .byteRead rfl ((exec_readByteRow (by simp) s).symm.trans h)
  | busStop => cases h; exact .stop rfl rfl
  | busBerr => cases h; exact .busError rfl rfl
  | reset => cases h; exact .reset rfl rfl

/-! ### The parts of the state each operation can write -/

section
variable {s t : State}

/-- An ADDR event can write SLV_DIR and BCNT, and one that begins a read loads TXBUF (R223, R224, R227). -/
theorem busAddr_writes {a7 : BitVec 7} {rw : Bool} (h : busAddr a7 rw s = .next t) :
    ∃ dir bcnt txbuf a, (txbuf ≠ s.slv.txbuf → rw = true ∧ txbuf = s.slv.txHold) ∧
      t = { s with slv := { s.slv with dir := dir, bcnt := bcnt, txbuf := txbuf },
                   ports := { s.ports with busAnswer := some a } } := by
  unfold busAddr at h
  split at h <;> cases h
  · cases rw
    · exact ⟨_, _, s.slv.txbuf, _, fun h => absurd rfl h, rfl⟩
    · exact ⟨_, _, s.slv.txHold, _, fun _ => ⟨rfl, rfl⟩, rfl⟩
  · rw [addrNomatch, dropTransfer_eq]
    split <;> exact ⟨_, _, s.slv.txbuf, _, fun h => absurd rfl h, rfl⟩

/-- A WB event can write the received word besides SLV_DIR and BCNT (R225 to R229). -/
theorem busWriteByte_writes {b : Byte} (h : busWriteByte b s = .next t) :
    ∃ dir bcnt rxbuf rxData rxReady a,
      t = { s with slv := { s.slv with dir := dir, bcnt := bcnt, rxbuf := rxbuf, rxData := rxData, rxReady := rxReady },
                   ports := { s.ports with busAnswer := some a } } := by
  unfold busWriteByte at h
  (repeat' split at h) <;> cases h <;> exact ⟨_, _, _, _, _, _, rfl⟩

/-- An RB event can write SLV_DIR and BCNT (R230, R231). -/
theorem busReadByte_writes (h : busReadByte s = .next t) :
    ∃ dir bcnt a, t = { s with slv := { s.slv with dir := dir, bcnt := bcnt },
                               ports := { s.ports with busAnswer := some a } } := by
  unfold busReadByte at h
  (repeat' split at h) <;> cases h <;> exact ⟨_, _, _, rfl⟩

/-- A tick writes the loader, the sequencer and the reading and makes sensor calls, nothing else. -/
theorem tick_frame (h : sequencerStep (loaderStep s) = .next t) :
    ∃ q l r calls, t = { s.called calls with seq := q, ldr := l, reading := r } := by
  obtain ⟨l, c1, hl⟩ := loaderStep_frame s
  obtain ⟨q, r, c2, rfl⟩ := sequencerStep_frame h
  refine ⟨q, l, r, c1 ++ c2, ?_⟩
  rw [hl, ← called_called]
  rfl

end

/-- Settles O15: of the effects an event can have, a CMD write's and reset's are those that write CMD_REJ. -/
theorem cmdRejWrittenByCmdOnly : Obligations.CmdRejWrittenByCmdOnly := by
  intro i s t h changed
  have unchanged {P : Prop} (same : t.cfg = s.cfg) : P := absurd (congrArg HostRegs.cmdRej same) changed
  cases exec_effect h with
  | command lo d stop start load word => exact .inr (by rw [word, hostWriteWord_kind_reg]; rfl)
  | reset row => exact .inl row
  | config lo d word next => exact absurd (by rw [next, cfgWrite_cfg]) changed
  | tick word next => obtain ⟨_, _, _, _, rfl⟩ := tick_frame next; exact unchanged rfl
  | loaderHalf half word next => obtain ⟨_, _, frame⟩ := loaderStep_frame s; exact unchanged (by rw [next, frame]; rfl)
  | sequencerHalf half word next => obtain ⟨_, _, _, rfl⟩ := sequencerStep_frame next; exact unchanged rfl
  | address a7 rw word next => obtain ⟨_, _, rfl⟩ := busAddr_frame next; exact unchanged rfl
  | byteWritten b word next => obtain ⟨_, _, rfl⟩ := busWriteByte_frame next; exact unchanged rfl
  | byteRead word next => obtain ⟨_, _, rfl⟩ := busReadByte_frame next; exact unchanged rfl
  | stop word next => exact unchanged (by rw [next, dropTransfer_cfg])
  | publish _ _ _ next | ignored next | answered _ _ _ _ next | consumed _ _ next | busError _ next =>
    subst next; exact unchanged rfl

/-- Settles O58: for each effect, the parts it writes are those its operation's frame names, and the word is of that kind. -/
theorem sharingDiscipline : Obligations.SharingDiscipline := by
  intro i s t notReset h
  dsimp only
  cases exec_effect h with
  | command lo d stop start load word next => rw [next, cmdWrite_frame]; simp [word]
  | config lo d word next => rw [next, cfgWrite_eq]; split <;> simp [word]
  | publish lo d word next => rw [next]; simp [word]
  | ignored next => rw [next]; simp
  | answered reg lo v word next => rw [next]; simp [word]
  | consumed lo word next => rw [next]; simp [word]
  | tick word next => obtain ⟨_, _, _, _, rfl⟩ := tick_frame next; simp [word]
  | loaderHalf half word next => obtain ⟨_, _, frame⟩ := loaderStep_frame s; rw [next, frame]; simp [word]
  | sequencerHalf half word next => obtain ⟨_, _, _, rfl⟩ := sequencerStep_frame next; simp [word]
  | address a7 rw word next =>
    obtain ⟨_, _, _, _, loaded, rfl⟩ := busAddr_writes next
    simpa [word] using loaded
  | byteWritten b word next => obtain ⟨_, _, _, _, _, _, rfl⟩ := busWriteByte_writes next; simp [word]
  | byteRead word next => obtain ⟨_, _, _, rfl⟩ := busReadByte_writes next; simp [word]
  | stop word next => rw [next, dropTransfer_eq]; split <;> simp [word]
  | busError word next => rw [next]; simp [word]
  | reset row => exact absurd row notReset

/-- Settles O23: an instruction with a host read's word is a host-read row, and each but RX_DATA's is `hostAnswer`. -/
theorem otherHostReadsHaveNoSideEffect : Obligations.OtherHostReadsHaveNoSideEffect := by
  intro i s hkind hreg
  cases i with
  | hrRxData lo => exact absurd (hostReadWord_reg 8#6 lo) hreg
  | hrCmd | hrCfg | hrStatus | hrPressure | hrTemperature | hrRawD1 | hrRawD2 | hrTxHold | hrCal0 | hrCal1 | hrCal2 | hrCal3
  | hrCal4 | hrCal5 | hrCal6 | hrUnmapped40 | hrUnmapped80 => exact ⟨_, rfl⟩
  | _ => simp [encode] at hkind

end Sys2Proof.Machine
end

section
/-! The invariants of reachable states (R28, R33, R49, R50): each operation keeps them, so every step does; and what follows
from them for a step: it completes (R307). -/

namespace Sys2Proof.Machine

open Config

/-! ### The parts of the invariants -/

/-- What the invariants say of a responder, SLV_EN being `enabled` (R32, R33, R222). -/
structure TransferInv (enabled : Bool) (r : Responder) : Prop where
  dirHeld : r.dir ≠ .reserved
  restCount : r.dir = .none → r.bcnt = 0#3
  transferCount : r.dir ≠ .none → r.bcnt.toNat ≤ 3
  stoppedAtRest : enabled = false → r.dir = .none

/-- What the invariants say of a sequencer and its reading, the loader apart (R22, R23, R25, R49, R50). -/
structure SequencerInv (p : Params) (q : Sequencer) (r : Reading) : Prop where
  seqHeld : q.state.isHeld = true
  waitZero : q.state ∈ [SeqState.idle, .readP, .startT, .readT, .calc, .startP] → q.waitCnt = 0
  waitFits : q.waitCnt < 2 ^ p.waitCntWidth
  errorCount : q.state = .error → q.waitCnt ≤ p.errRetryLimit
  errorInvalid : q.state = .error → r.valid = false
  failCode : q.lastFailState ∈ [0#4, 1#4, 3#4, 4#4, 6#4, 7#4]

/-- What the invariants say of a loader beside a sequencer in `x` (R28, R50). -/
structure LoaderInv (x : SeqState) (l : Loader) : Prop where
  runningCalibrated : x ≠ .idle → l.calValid = true
  busyPhase : l.calBusy = true ↔ l.phase ≠ .lIdle
  busyIdle : l.calBusy = true → x = .idle ∧ l.calValid = false

/-- The invariants are those of the three parts. -/
theorem coreInv_iff (s : State) :
    CoreInv s ↔ TransferInv s.cfg.slvEn s.slv ∧ SequencerInv s.params s.seq s.reading ∧ LoaderInv s.seq.state s.ldr :=
  ⟨fun h => ⟨⟨h.dirHeld, h.restCount, h.transferCount, h.stoppedAtRest⟩,
      ⟨h.seqHeld, h.waitZero, h.waitFits, h.errorCount, h.errorInvalid, h.failCode⟩,
      ⟨h.runningCalibrated, h.busyPhase, h.busyIdle⟩⟩,
    fun ⟨r, q, l⟩ => ⟨q.seqHeld, r.dirHeld, l.runningCalibrated, l.busyPhase, l.busyIdle, q.waitZero, q.waitFits,
      q.errorCount, q.errorInvalid, q.failCode, r.restCount, r.transferCount, r.stoppedAtRest⟩⟩

section
variable {s : State}

theorem CoreInv.transfer (h : CoreInv s) : TransferInv s.cfg.slvEn s.slv := ((coreInv_iff s).1 h).1

theorem CoreInv.sequencer (h : CoreInv s) : SequencerInv s.params s.seq s.reading := ((coreInv_iff s).1 h).2.1

theorem CoreInv.loader (h : CoreInv s) : LoaderInv s.seq.state s.ldr := ((coreInv_iff s).1 h).2.2

theorem CoreInv.with_transfer (h : CoreInv s) {c : HostRegs} {r : Responder} {p : Ports} (hr : TransferInv c.slvEn r) :
    CoreInv { s with cfg := c, slv := r, ports := p } :=
  (coreInv_iff _).2 ⟨hr, h.sequencer, h.loader⟩

theorem CoreInv.with_sequencer (h : CoreInv s) {q : Sequencer} {r : Reading} {l : Loader} {e : Env} {p : Ports}
    (hq : SequencerInv s.params q r) (hl : LoaderInv q.state l) :
    CoreInv { s with seq := q, reading := r, ldr := l, env := e, ports := p } :=
  (coreInv_iff _).2 ⟨h.transfer, hq, hl⟩

theorem CoreInv.takeEvent (h : CoreInv s) (rest : List OpWord) : CoreInv (s.takeEvent rest) :=
  (coreInv_iff _).2 ⟨h.transfer, h.sequencer, h.loader⟩

end

/-! ### The responder -/

section
variable {r r' : Responder} {enabled : Bool}

/-- A responder in None with BCNT = 0 is at rest whether it is started or not. -/
theorem TransferInv.of_rest (hdir : r.dir = .none) (hbcnt : r.bcnt = 0#3) : TransferInv enabled r :=
  ⟨by simp [hdir], fun _ => hbcnt, fun h => absurd hdir h, fun _ => hdir⟩

/-- A started responder may be in a transfer. -/
theorem TransferInv.of_started (hen : enabled = true) (hheld : r.dir ≠ .reserved) (hdir : r.dir ≠ .none)
    (hbcnt : r.bcnt.toNat ≤ 3) : TransferInv enabled r :=
  ⟨hheld, fun h => absurd h hdir, fun _ => hbcnt, fun h => by simp [hen] at h⟩

/-- Only SLV_DIR and BCNT are spoken of. -/
theorem TransferInv.of_same (h : TransferInv enabled r) (hdir : r'.dir = r.dir) (hbcnt : r'.bcnt = r.bcnt) :
    TransferInv enabled r' := by
  constructor <;> simp only [hdir, hbcnt, ne_eq]
  exacts [h.dirHeld, h.restCount, h.transferCount, h.stoppedAtRest]

/-- A responder in a transfer is started (R222). -/
theorem TransferInv.enabled_of_transfer (h : TransferInv enabled r) (hdir : r.dir ≠ .none) : enabled = true :=
  Bool.eq_true_of_not_eq_false (mt h.stoppedAtRest hdir)

/-- One more byte of a transfer that has fewer than 3 (R225, R230). -/
theorem TransferInv.count (h : TransferInv enabled r) (hdir : r.dir ≠ .none) (hbcnt : r.bcnt.toNat < 3)
    (hdir' : r'.dir = r.dir) (hbcnt' : r'.bcnt = r.bcnt + 1#3) : TransferInv enabled r' := by
  refine .of_started (h.enabled_of_transfer hdir) (hdir' ▸ h.dirHeld) (hdir' ▸ hdir) ?_
  rw [hbcnt', BitVec.toNat_add]
  simp; omega

end

section
variable {s t : State}

theorem CoreInv.endTransfer (h : CoreInv s) : CoreInv s.endTransfer := h.with_transfer (.of_rest rfl rfl)

theorem CoreInv.dropTransfer (h : CoreInv s) : CoreInv s.dropTransfer := by
  unfold State.dropTransfer
  split
  · exact h
  · exact h.endTransfer

theorem CoreInv.busAddr (h : CoreInv s) {a7 : BitVec 7} {rw : Bool} (next : busAddr a7 rw s = .next t) : CoreInv t := by
  unfold Machine.busAddr at next
  split at next <;> cases next
  next hit =>
    have started := (addrMatch_iff.1 hit).1
    cases rw <;> exact h.with_transfer (.of_started started (by simp) (by simp) (by simp))
  · exact h.dropTransfer.with_transfer h.dropTransfer.transfer

theorem CoreInv.busWriteByte (h : CoreInv s) {b : Byte} (next : busWriteByte b s = .next t) : CoreInv t := by
  unfold Machine.busWriteByte at next
  split at next
  case h_1 => cases next; exact h.with_transfer h.transfer
  case h_2 hdir =>
    split at next
    next hcnt => cases next; exact h.with_transfer (h.transfer.count (by simp [hdir]) hcnt rfl rfl)
    · split at next <;> cases next
      exact h.with_transfer (.of_rest rfl rfl)
  case h_3 => cases next; exact h.with_transfer (.of_rest rfl rfl)
  case h_4 => cases next

theorem CoreInv.busReadByte (h : CoreInv s) (next : busReadByte s = .next t) : CoreInv t := by
  unfold Machine.busReadByte at next
  split at next
  case h_1 => cases next; exact h.with_transfer h.transfer
  case h_2 => cases next; exact h.with_transfer (.of_rest rfl rfl)
  case h_3 hdir =>
    split at next
    next hcnt => cases next; exact h.with_transfer (h.transfer.count (by simp [hdir]) hcnt rfl rfl)
    · split at next <;> cases next
      exact h.with_transfer (.of_rest rfl rfl)
  case h_4 => cases next

/-- A CFG write with SLV_EN = 0 leaves the responder at rest (R263). -/
theorem CoreInv.cfgWrite (h : CoreInv s) (d : Word) : CoreInv (cfgWrite d s) := by
  rw [cfgWrite_eq]
  apply h.with_transfer
  split
  next hen =>
    exact ⟨h.dirHeld, h.restCount, h.transferCount, fun hoff => absurd (hen.symm.trans hoff) (by simp)⟩
  · exact .of_rest rfl rfl

/-! ### The commands -/

theorem CoreInv.setCmdRej (h : CoreInv s) (rej : Bool) : CoreInv (setCmdRej rej s) := h.with_transfer h.transfer

theorem CoreInv.stopPart (h : CoreInv s) (stop : Bool) : CoreInv (stopPart stop s) := by
  unfold Machine.stopPart
  split
  · exact h.with_sequencer ⟨rfl, fun _ => rfl, Nat.two_pow_pos _, by simp, by simp, h.failCode⟩
      ⟨by simp, h.busyPhase, fun hbusy => ⟨rfl, (h.busyIdle hbusy).2⟩⟩
  · exact h

/-- With a loaded set the loader is not busy (R50). -/
theorem CoreInv.calBusy_of_calValid (h : CoreInv s) (hvalid : s.ldr.calValid = true) : s.ldr.calBusy = false :=
  Bool.eq_false_of_not_eq_true fun hbusy => by simpa [hvalid] using (h.busyIdle hbusy).2

/-- With a loaded set the loader may stand beside any sequencer state. -/
theorem CoreInv.loader_of_calValid (h : CoreInv s) (hvalid : s.ldr.calValid = true) (x : SeqState) : LoaderInv x s.ldr :=
  ⟨fun _ => hvalid, h.busyPhase, fun hbusy => by simp [h.calBusy_of_calValid hvalid] at hbusy⟩

theorem CoreInv.startPart (h : CoreInv s) (start : Bool) : CoreInv (startPart start s) := by
  unfold Machine.startPart
  split
  next taken =>
    have hvalid := ((startAccepted_iff s).1 (Bool.and_eq_true_iff.1 taken).2).2
    exact h.with_sequencer ⟨rfl, fun _ => rfl, Nat.two_pow_pos _, by simp, by simp, h.failCode⟩
      (h.loader_of_calValid hvalid _)
  · exact h

theorem CoreInv.loadPart (h : CoreInv s) (load : Bool) : CoreInv (loadPart load s) := by
  unfold Machine.loadPart
  split
  next taken =>
    obtain ⟨hvalid, _, hidle⟩ := (loadAccepted_iff s).1 (Bool.and_eq_true_iff.1 taken).2
    exact h.with_sequencer h.sequencer ⟨h.runningCalibrated, by simp, fun _ => ⟨hidle, hvalid⟩⟩
  · exact h

theorem CoreInv.cmdWrite (h : CoreInv s) (stop start load : Bool) : CoreInv (cmdWrite stop start load s) :=
  (((h.stopPart stop).startPart start).loadPart load).setCmdRej _

/-! ### The tick -/

/-- With a loaded set the loader's half of a tick does nothing (R28, R170). -/
theorem CoreInv.phase_of_calValid (h : CoreInv s) (hvalid : s.ldr.calValid = true) : s.ldr.phase = .lIdle :=
  not_not.1 fun hp => by simpa [h.calBusy_of_calValid hvalid] using h.busyPhase.2 hp

theorem loaderStep_of_idle (h : s.ldr.phase = .lIdle) : loaderStep s = s := by
  rw [loaderStep, h, loaderIdle]

/-- The loader works beside an idle sequencer without a loaded set (R50). -/
theorem CoreInv.idle_of_loading (h : CoreInv s) (hphase : s.ldr.phase ≠ .lIdle) :
    s.seq.state = .idle ∧ s.ldr.calValid = false :=
  h.busyIdle (h.busyPhase.2 hphase)

theorem CoreInv.loaderStep (h : CoreInv s) : CoreInv (loaderStep s) := by
  rcases loaderStep_cases s with ⟨_, next⟩ | ⟨hp, next⟩ | ⟨calls, ⟨hp, next⟩ | ⟨hp, next⟩ | ⟨hp, w, next⟩⟩ <;> rw [next]
  · exact h
  all_goals
    have loading : s.ldr.phase ≠ .lIdle := by simp [hp]
    obtain ⟨hidle, hvalid⟩ := h.idle_of_loading loading
    have busy := h.busyPhase.2 loading
    refine h.with_sequencer h.sequencer ⟨fun running => absurd hidle running, ?_, ?_⟩
  -- the loader goes on
  · exact ⟨fun _ => by dsimp only; split <;> simp, fun _ => busy⟩
  · exact fun _ => ⟨hidle, hvalid⟩
  · exact ⟨fun _ => by simp, fun _ => busy⟩
  · exact fun _ => ⟨hidle, hvalid⟩
  -- the load ends, with an error or with a set
  all_goals simp

/-- Where a sequencer goes from a state that is not IDLE, the loader rests beside it. -/
theorem CoreInv.with_running (h : CoreInv s) (running : s.seq.state ≠ .idle) {q : Sequencer} {r : Reading} {e : Env}
    {p : Ports} (hq : SequencerInv s.params q r) : CoreInv { s with seq := q, reading := r, env := e, ports := p } :=
  h.with_sequencer hq (h.loader_of_calValid (h.runningCalibrated running) _)

/-- The states that can fail have the codes LAST_FAIL_STATE may hold (R25). -/
theorem failCode_of_failingState : ∀ x ∈ [SeqState.startP, .readP, .startT, .readT],
    x.code ∈ [0#4, 1#4, 3#4, 4#4, 6#4, 7#4] := by decide

/-- A Wait state counts down within its width, and enters the Read state with a count of 0 (R152, R155). -/
theorem SequencerInv.countDown {p : Params} {q : Sequencer} {r : Reading} (h : SequencerInv p q r) {wait read : SeqState}
    (hwait : wait ∈ [SeqState.waitP, .waitT]) (hread : read ∈ [SeqState.readP, .readT]) :
    SequencerInv p
      { q with waitCnt := satdec q.waitCnt, state := if satdec q.waitCnt = 0 then read else wait } r := by
  by_cases ended : satdec q.waitCnt = 0
  · simp only [ended, if_true]
    fin_cases hread <;> exact ⟨rfl, fun _ => rfl, Nat.two_pow_pos _, by simp, by simp, h.failCode⟩
  · have fits : satdec q.waitCnt < 2 ^ p.waitCntWidth := by
      rw [satdec_eq]; exact lt_of_le_of_lt (Nat.sub_le _ _) h.waitFits
    simp only [ended, if_false]
    fin_cases hwait <;> exact ⟨rfl, by simp, fits, by simp, by simp, h.failCode⟩

theorem CoreInv.sequencerStep (h : CoreInv s) (next : sequencerStep s = .next t) : CoreInv t := by
  have zero {x : SeqState} (hx : s.seq.state = x)
      (hmem : x ∈ [SeqState.idle, .readP, .startT, .readT, .calc, .startP]) : s.seq.waitCnt = 0 :=
    h.waitZero (hx ▸ hmem)
  have pos : 0 < 2 ^ s.params.waitCntWidth := Nat.two_pow_pos _
  rcases sequencerStep_cases next with
    ⟨_, rfl⟩ | ⟨c, ⟨hs, rfl⟩ | ⟨hs, rfl⟩ | ⟨hs, rfl⟩ | ⟨hs, d, rfl⟩ | ⟨hs, d, rfl⟩⟩ | ⟨hs, rfl⟩ | ⟨hs, rfl⟩ |
      ⟨hs, _, p, q, rfl⟩ | ⟨hs, hv, rfl⟩ | ⟨hs, ⟨_, rfl⟩ | ⟨hc, rfl⟩⟩
  · exact h
  -- START_P and START_T answered
  · exact h.with_running (by simp [hs]) ⟨rfl, by simp, settlingCount_lt s, by simp, by simp, h.failCode⟩
  · exact h.with_running (by simp [hs]) ⟨rfl, by simp, settlingCount_lt s, by simp, by simp, h.failCode⟩
  -- the entry to Error
  · have running : s.seq.state ≠ .idle := by rintro hidle; simp [hidle] at hs
    exact h.with_running running
      ⟨rfl, by simp, pos, fun _ => Nat.zero_le _, fun _ => rfl, failCode_of_failingState _ hs⟩
  -- READ_P and READ_T answered
  · exact h.with_running (by simp [hs]) ⟨rfl, fun _ => zero hs (by simp), h.waitFits, by simp, by simp, h.failCode⟩
  · exact h.with_running (by simp [hs]) ⟨rfl, fun _ => zero hs (by simp), h.waitFits, by simp, by simp, h.failCode⟩
  -- WAIT_P and WAIT_T
  · exact h.with_running (by simp [hs]) (h.sequencer.countDown (by simp) (by simp))
  · exact h.with_running (by simp [hs]) (h.sequencer.countDown (by simp) (by simp))
  -- CALC
  · exact h.with_running (by simp [hs]) ⟨rfl, fun _ => zero hs (by simp), h.waitFits, by simp, by simp, h.failCode⟩
  · exact absurd (h.runningCalibrated (by simp [hs])) (by simp [hv])
  -- Error
  · exact h.with_running (by simp [hs]) ⟨rfl, fun _ => rfl, pos, by simp, by simp, h.failCode⟩
  · refine h.with_running (by simp [hs]) ⟨h.seqHeld, by simp [hs], ?_, fun _ => hc, fun _ => rfl, h.failCode⟩
    simp only [satinc_eq h.waitFits]; omega

/-! ### Reset and the step -/

theorem coreInv_resetWith (p : Params) : CoreInv (State.resetWith p) := by
  constructor <;> simp [State.resetWith, SeqState.isHeld]

theorem coreInv_resetCore (s : State) : CoreInv (resetCore s) :=
  have h := coreInv_resetWith s.params
  (coreInv_iff _).2 ⟨h.transfer, h.sequencer, h.loader⟩

/-- Every event keeps the invariants. -/
theorem CoreInv.exec (h : CoreInv s) {i : Instr} (next : exec i s = .next t) : CoreInv t := by
  cases exec_effect next with
  | command _ _ stop start load _ next => exact next ▸ h.cmdWrite stop start load
  | config _ d _ next => exact next ▸ h.cfgWrite d
  | publish _ _ _ next | consumed _ _ next | answered _ _ _ _ next => 
    subst next; exact h.with_transfer (h.transfer.of_same rfl rfl)
  | ignored next => exact next ▸ h
  | tick _ next => exact h.loaderStep.sequencerStep next
  | loaderHalf _ _ next => exact next ▸ h.loaderStep
  | sequencerHalf _ _ next => exact h.sequencerStep next
  | address _ _ _ next => exact h.busAddr next
  | byteWritten _ _ next => exact h.busWriteByte next
  | byteRead _ next => exact h.busReadByte next
  | stop _ next => exact next ▸ h.dropTransfer
  | busError _ next => exact next ▸ h.endTransfer
  | reset _ next => exact next ▸ coreInv_resetCore s

/-- The invariants leave out every never-held code (R109). -/
theorem CoreInv.isHeld (h : CoreInv s) : s.isHeld = true := by
  have count : s.slv.bcnt.toNat ≤ 4 := by
    by_cases hdir : s.slv.dir = .none
    · simp [h.restCount hdir]
    · exact le_trans (h.transferCount hdir) (by decide)
  exact (isHeld_iff s).2 ⟨h.seqHeld, h.dirHeld, count⟩

/-- A step is the event of the next word, whole, or with no event ready nothing. -/
theorem step_cases (next : step s = .next t) :
    (s.env.events = [] ∧ t = s) ∨
    ∃ op rest i, s.env.events = op :: rest ∧ encode i = op ∧ isTickHalf i = false ∧
      Machine.exec i (s.takeEvent rest) = .next t := by
  by_cases hs : s.isHeld = true
  · cases hop : s.env.events with
    | nil => rw [step_noEvent hs hop] at next; cases next; exact .inl ⟨rfl, rfl⟩
    | cons op rest =>
      cases hi : decode op with
      | error e => rw [step_reservedWord hs hop hi] at next; cases next
      | ok i =>
        rw [step_of_decode hs hop hi] at next
        exact .inr ⟨op, rest, i, rfl, encode_of_decode hi, isTickHalf_of_decode hi, next⟩
  · rw [step_not_held (Bool.eq_false_of_not_eq_true hs)] at next; cases next

end

/-- Settles O11: a step is one event, and every event keeps the invariants. -/
theorem stepKeepsInvariants : Obligations.StepKeepsInvariants := by
  intro s t h next
  obtain ⟨_, rfl⟩ | ⟨_, rest, _, _, _, _, next⟩ := step_cases next
  · exact h
  · exact (h.takeEvent rest).exec next

/-- Settles O12: the two states after reset are `State.resetWith` of their parameters. -/
theorem resetMeetsInvariants : Obligations.ResetMeetsInvariants :=
  ⟨coreInv_resetWith _, coreInv_resetWith⟩

/-! ### Every event completes (R307) -/

section
variable {s : State}

theorem CoreInv.busWriteByte_next (h : CoreInv s) (b : Byte) : ∃ t, Machine.busWriteByte b s = .next t := by
  unfold Machine.busWriteByte
  split
  case h_1 | h_3 => exact ⟨_, rfl⟩
  case h_2 hdir =>
    have count := h.transferCount (by simp [hdir])
    split
    · exact ⟨_, rfl⟩
    · rw [if_pos (by omega)]; exact ⟨_, rfl⟩
  case h_4 hdir => exact absurd hdir h.dirHeld

theorem CoreInv.busReadByte_next (h : CoreInv s) : ∃ t, Machine.busReadByte s = .next t := by
  unfold Machine.busReadByte
  split
  case h_1 | h_2 => exact ⟨_, rfl⟩
  case h_3 hdir =>
    have count := h.transferCount (by simp [hdir])
    split
    · exact ⟨_, rfl⟩
    · rw [if_pos (by omega)]; exact ⟨_, rfl⟩
  case h_4 hdir => exact absurd hdir h.dirHeld

theorem busAddr_next (a7 : BitVec 7) (rw : Bool) (s : State) : ∃ t, Machine.busAddr a7 rw s = .next t := by
  unfold Machine.busAddr
  split <;> exact ⟨_, rfl⟩

/-- No event is refused where the invariants hold. -/
theorem CoreInv.exec_next (h : CoreInv s) (i : Instr) : ∃ t, Machine.exec i s = .next t := by
  cases i with
  | tick => exact sequencerStep_next h.loaderStep.seqHeld
  | tickLIdle | tickLReset | tickLWait | tickLProm => exact ⟨_, exec_loaderRow (by simp) s⟩
  | tickIdle | tickStartP | tickWaitP | tickReadP | tickStartT | tickWaitT | tickReadT | tickCalc | tickError =>
    rw [exec_sequencerRow (by simp)]; exact sequencerStep_next h.seqHeld
  | busAddrWMatch a7 => rw [exec_busAddrWMatch]; exact busAddr_next ..
  | busAddrRMatch a7 => rw [exec_busAddrRMatch]; exact busAddr_next ..
  | busAddrNomatch a7 rw => rw [exec_busAddrNomatch]; exact busAddr_next ..
  | busWbRx b | busWbRxLast b | busWbNone b | busWbTx b =>
    rw [exec_writeByteRow (b := b) (by simp)]; exact h.busWriteByte_next b
  | busRbTx | busRbTxLast | busRbNone | busRbRx => rw [exec_readByteRow (by simp)]; exact h.busReadByte_next
  | _ => exact ⟨_, rfl⟩

end

/-- Settles O10: the word is reserved, or its event completes. -/
theorem onlyReservedWordsStopTheCore : Obligations.OnlyReservedWordsStopTheCore := by
  intro s h
  cases hop : s.env.events with
  | nil => exact .inl ⟨s, step_noEvent h.isHeld hop⟩
  | cons op rest =>
    cases hi : decode op with
    | error e => exact .inr ⟨op, rest, e, rfl, hi, step_reservedWord h.isHeld hop hi⟩
    | ok i => rw [step_of_decode h.isHeld hop hi]; exact .inl ((h.takeEvent rest).exec_next i)

end Sys2Proof.Machine
end

section
/-! The tick as one event (R145) and the steps of a calibrated core: the frame of a tick (R237), the cycle of states (R161),
the entry to Error (R160, R320), the calibration set (R26, R49) and the reading (R164). -/

namespace Sys2Proof.Machine

open Config

section
variable {s t : State}

@[simp] theorem loaderStep_seq (s : State) : (loaderStep s).seq = s.seq := by
  obtain ⟨_, _, h⟩ := loaderStep_frame s
  rw [h]; rfl

/-- Beside a running sequencer the loader does nothing (R28, R50, R170). -/
theorem CoreInv.loaderStep_of_running (h : CoreInv s) (running : s.seq.state ≠ .idle) : Machine.loaderStep s = s :=
  loaderStep_of_idle (h.phase_of_calValid (h.runningCalibrated running))

end

/-- Settles O33: the sequencer state the loader leaves is held, so the sequencer step answers, and `tick_frame` says what the
tick writes. -/
theorem tickCompletesWithItsFrame : Obligations.TickCompletesWithItsFrame := by
  intro s hcode
  have held : (loaderStep s).seq.state.isHeld = true := by
    rw [loaderStep_seq]; exact (seqState_isHeld_iff_code _).2 hcode
  obtain ⟨t, next⟩ := sequencerStep_next held
  refine ⟨t, next, ?_⟩
  obtain ⟨_, _, _, _, rfl⟩ := tick_frame next
  exact ⟨rfl, rfl, rfl, rfl, rfl, rfl⟩

/-- Settles O35: each case of the sequencer step that neither enters Error nor stays in it is a move of the cycle. -/
theorem tickFollowsTheCycle : Obligations.TickFollowsTheCycle := by
  intro s t h next notError
  have now : (loaderStep s).seq.state = s.seq.state := by rw [loaderStep_seq]
  rcases sequencerStep_cases next with
    ⟨hs, rfl⟩ | ⟨c, ⟨hs, rfl⟩ | ⟨hs, rfl⟩ | ⟨hs, rfl⟩ | ⟨hs, d, rfl⟩ | ⟨hs, d, rfl⟩⟩ | ⟨hs, rfl⟩ | ⟨hs, rfl⟩ |
      ⟨hs, _, p, q, rfl⟩ | ⟨hs, hv, rfl⟩ | ⟨hs, ⟨_, rfl⟩ | ⟨hc, rfl⟩⟩ <;> rw [now] at hs
  · simp [hs]
  -- START_P and START_T answered, and the entry to Error
  · simp [hs]
  · simp [hs]
  · exact absurd rfl notError
  -- READ_P and READ_T answered
  · simp [hs]
  · simp [hs]
  -- WAIT_P and WAIT_T
  · rw [hs]; dsimp only; split <;> simp
  · rw [hs]; dsimp only; split <;> simp
  -- CALC, with a set and without
  · simp [hs]
  · exact absurd rfl notError
  -- Error left, and kept
  · simp [hs]
  · exact absurd (now.trans hs) notError

/-! ### Steps that change the sequencer, the calibration set or the reading -/

section
variable {s t : State}

/-- Of whole events only ticks, CMD writes and reset change the sequencer, the loader or the reading (R360). -/
theorem EventEffect.sequencing_cases {i : Instr} (h : EventEffect i s t) (whole : isTickHalf i = false) :
    (encode i = tickWord ∧ sequencerStep (loaderStep s) = .next t) ∨
    (∃ stop start load, t = cmdWrite stop start load s) ∨
    (encode i = resetWord ∧ t = resetCore s) ∨
    (t.seq = s.seq ∧ t.ldr = s.ldr ∧ t.reading = s.reading) := by
  cases h with
  | tick word next => exact .inl ⟨word, next⟩
  | command _ _ stop start load _ next => exact .inr (.inl ⟨stop, start, load, next⟩)
  | reset row next => exact .inr (.inr (.inl ⟨by rw [row]; rfl, next⟩))
  | loaderHalf half | sequencerHalf half => simp [whole] at half
  | config _ _ _ next => rw [next, cfgWrite_eq]; simp
  | address _ _ _ next => obtain ⟨_, _, rfl⟩ := busAddr_frame next; simp
  | byteWritten _ _ next => obtain ⟨_, _, rfl⟩ := busWriteByte_frame next; simp
  | byteRead _ next => obtain ⟨_, _, rfl⟩ := busReadByte_frame next; simp
  | publish _ _ _ next | ignored next | answered _ _ _ _ next | consumed _ _ next | stop _ next | busError _ next =>
    rw [next]; simp

theorem step_sequencing_cases (next : step s = .next t) :
    (∃ rest, s.env.events.head? = some tickWord ∧ sequencerStep (loaderStep (s.takeEvent rest)) = .next t) ∨
    (∃ rest stop start load, t = cmdWrite stop start load (s.takeEvent rest)) ∨
    (s.env.events.head? = some resetWord ∧ ∃ rest, t = resetCore (s.takeEvent rest)) ∨
    (t.seq = s.seq ∧ t.ldr = s.ldr ∧ t.reading = s.reading) := by
  obtain ⟨_, rfl⟩ | ⟨op, rest, i, hop, word, whole, next⟩ := step_cases next
  · simp
  · rw [hop, ← word]
    obtain ⟨word, next⟩ | ⟨stop, start, load, next⟩ | ⟨word, next⟩ | same := (exec_effect next).sequencing_cases whole
    · exact .inl ⟨rest, by rw [word]; rfl, next⟩
    · exact .inr (.inl ⟨rest, stop, start, load, next⟩)
    · exact .inr (.inr (.inl ⟨by rw [word]; rfl, rest, next⟩))
    · exact .inr (.inr (.inr same))

/-- SEQ_STATE after a CMD write is IDLE, START_P or the one before (R142, R143). -/
theorem cmdWrite_seqState (stop start load : Bool) (s : State) :
    (cmdWrite stop start load s).seq.state ∈ [SeqState.idle, .startP, s.seq.state] := by
  rw [cmdWrite_seq, startPart_seq, stopPart_seq]
  split
  · simp
  · split <;> simp

/-- A CMD write leaves a loaded set as it is: CAL_LOAD is refused (R144). -/
theorem cmdWrite_ldr_of_calValid (hvalid : s.ldr.calValid = true) (stop start load : Bool) :
    (cmdWrite stop start load s).ldr = s.ldr := by
  rw [cmdWrite_ldr, loadPart_ldr, if_neg, sequencerParts_frame]
  rw [sequencerParts_loadAccepted_iff]
  simp [hvalid]

theorem cmdWrite_reading (stop start load : Bool) (s : State) : (cmdWrite stop start load s).reading = s.reading := by
  rw [cmdWrite_frame]

@[simp] theorem loaderStep_reading (s : State) : (loaderStep s).reading = s.reading := by
  obtain ⟨_, _, h⟩ := loaderStep_frame s
  rw [h]; rfl

/-- With a loaded set the sequencer enters Error by a failing call only (R160). -/
theorem sequencerStep_entersError (next : sequencerStep s = .next t) (hvalid : s.ldr.calValid = true)
    (before : s.seq.state ≠ .error) (after : t.seq.state = .error) :
    s.seq.state ∈ [SeqState.startP, .readP, .startT, .readT] ∧
      ∃ calls, t = (s.called calls).seqError s.seq.state.code := by
  rcases sequencerStep_cases next with
    ⟨hs, rfl⟩ | ⟨c, ⟨hs, rfl⟩ | ⟨hs, rfl⟩ | ⟨hs, rfl⟩ | ⟨hs, d, rfl⟩ | ⟨hs, d, rfl⟩⟩ | ⟨hs, rfl⟩ | ⟨hs, rfl⟩ |
      ⟨hs, _, p, q, rfl⟩ | ⟨hs, hv, rfl⟩ | ⟨hs, _⟩
  · exact absurd after before
  · cases after
  · cases after
  · exact ⟨hs, c, rfl⟩
  · cases after
  · cases after
  · dsimp only at after; split at after <;> cases after
  · dsimp only at after; split at after <;> cases after
  · cases after
  · exact absurd hvalid (by simp [hv])
  · exact absurd hs before

/-- The sequencer writes PRESSURE and TEMPERATURE, or sets READING_VALID, in CALC only, and goes to START_P (R157, R164). -/
theorem sequencerStep_reading_cases (next : sequencerStep s = .next t) :
    (s.seq.state = .calc ∧ t.seq.state = .startP) ∨
    (t.reading.pressure = s.reading.pressure ∧ t.reading.temperature = s.reading.temperature ∧
      (t.reading.valid = true → s.reading.valid = true)) := by
  rcases sequencerStep_cases next with
    ⟨_, rfl⟩ | ⟨c, ⟨_, rfl⟩ | ⟨_, rfl⟩ | ⟨_, rfl⟩ | ⟨_, d, rfl⟩ | ⟨_, d, rfl⟩⟩ | ⟨_, rfl⟩ | ⟨_, rfl⟩ |
      ⟨hs, _, p, q, rfl⟩ | ⟨_, _, rfl⟩ | ⟨_, ⟨_, rfl⟩ | ⟨_, rfl⟩⟩
  case inr.inr.inr.inr.inl => exact .inl ⟨hs, rfl⟩
  all_goals right; simp

end

/-- Settles O34: a CMD write and reset lead to other states, and a tick that enters Error finds the loader at rest and fails a
sensor call. -/
theorem errorEntryIsPrecise : Obligations.ErrorEntryIsPrecise := by
  intro s t h next before after
  obtain ⟨rest, _, next⟩ | ⟨rest, stop, start, load, rfl⟩ | ⟨_, rest, rfl⟩ | ⟨hseq, _, _⟩ := step_sequencing_cases next
  · have running : s.seq.state ≠ .idle := by
      intro hidle
      rw [sequencerStep, loaderStep_seq, takeEvent_seq, hidle] at next
      cases next
      simp [seqIdle, hidle] at after
    rw [(h.takeEvent rest).loaderStep_of_running running] at next
    obtain ⟨failing, calls, rfl⟩ := sequencerStep_entersError next (h.runningCalibrated running) before after
    exact ⟨rfl, failing, rfl, rfl, rfl, rfl⟩
  · have moves := cmdWrite_seqState stop start load (s.takeEvent rest)
    rw [after] at moves
    simp [Ne.symm before] at moves
  · cases after
  · exact absurd (hseq ▸ after) before

/-- Settles O41: with a loaded set the loader rests in a tick, and a CMD write's CAL_LOAD is refused. -/
theorem calibrationImmutable : Obligations.CalibrationImmutable := by
  intro s t h hvalid next notReset
  have same (hldr : t.ldr = s.ldr) : t.ldr.cal = s.ldr.cal ∧ t.ldr.calValid = true := by rw [hldr]; exact ⟨rfl, hvalid⟩
  apply same
  obtain ⟨rest, _, next⟩ | ⟨rest, stop, start, load, rfl⟩ | ⟨reset, _⟩ | ⟨_, hldr, _⟩ := step_sequencing_cases next
  · rw [loaderStep_of_idle ((h.takeEvent rest).phase_of_calValid hvalid)] at next
    obtain ⟨_, _, _, rfl⟩ := sequencerStep_frame next
    rfl
  · exact cmdWrite_ldr_of_calValid (s := s.takeEvent rest) hvalid stop start load
  · exact absurd reset notReset
  · exact hldr

/-- Settles O42: of the events that reach the reading only the tick writes it, and its sequencer step does so in CALC. -/
theorem readingWrittenByCalculateOnly : Obligations.ReadingWrittenByCalculateOnly := by
  intro s t h next notReset changed
  have unchanged {P : Prop} (hp : t.reading.pressure = s.reading.pressure)
      (ht : t.reading.temperature = s.reading.temperature) (hv : t.reading.valid = true → s.reading.valid = true) : P := by
    rcases changed with hp' | ht' | ⟨hoff, hon⟩
    · exact absurd hp hp'
    · exact absurd ht ht'
    · exact absurd (hv hon) (by simp [hoff])
  obtain ⟨rest, word, next⟩ | ⟨rest, stop, start, load, rfl⟩ | ⟨reset, _⟩ | ⟨_, _, hreading⟩ := step_sequencing_cases next
  · obtain ⟨hcalc, after⟩ | ⟨hp, ht, hv⟩ := sequencerStep_reading_cases next
    · exact ⟨word, by simpa using hcalc, after⟩
    · rw [loaderStep_reading] at hp ht hv
      exact unchanged hp ht hv
  · have hreading := cmdWrite_reading stop start load (s.takeEvent rest)
    rw [hreading] at unchanged
    exact unchanged rfl rfl id
  · exact absurd reset notReset
  · rw [hreading] at unchanged
    exact unchanged rfl rfl id

end Sys2Proof.Machine
end

section
/-! Noninterference (R237): a tick does not read the responder, and a bus event does not read the sequencer, the loader or the
reading. -/

namespace Sys2Proof.Machine

open Config

/-! ### The tick and the responder -/

/-- `s` with another responder. -/
def State.withResponder (s : State) (r : Responder) : State := { s with slv := r }

/-- Sensor calls that do not read the responder: with another one they give the same result and carry it along. -/
def CallsIgnoreResponder {α : Type} (f : State → Drawn α) : Prop :=
  ∀ s r, f (s.withResponder r) = ((f s).1, (f s).2.withResponder r)

theorem callsIgnoreResponder_sensorWrite (cmd : Byte) : CallsIgnoreResponder (sensorWrite cmd) := by
  intro s r
  rw [sensorWrite_eq, sensorWrite_eq]; rfl

theorem callsIgnoreResponder_sensorRead (n : Nat) : CallsIgnoreResponder (sensorRead n) := by
  intro s r
  rw [sensorRead_eq, sensorRead_eq]; rfl

/-- Calls after calls: the second read no responder but the one the first carried along. -/
theorem CallsIgnoreResponder.andThen {α β : Type} {f : State → Drawn α} {g : α → State → Drawn β}
    (hf : CallsIgnoreResponder f) (hg : ∀ a, CallsIgnoreResponder (g a)) :
    CallsIgnoreResponder fun s => (f s).andThen g := by
  intro s r
  dsimp only
  rw [hf]
  obtain ⟨_ | a, s'⟩ := f s
  · rfl
  · exact hg a s' r

theorem callsIgnoreResponder_readAdc : CallsIgnoreResponder readAdc := fun s r =>
  ((callsIgnoreResponder_sensorWrite s.params.cmdAdcRead).andThen fun _ =>
    (callsIgnoreResponder_sensorRead 3).andThen fun _ _ _ => rfl) s r

theorem callsIgnoreResponder_readPromWord (cmd : Byte) : CallsIgnoreResponder (readPromWord cmd) :=
  (callsIgnoreResponder_sensorWrite cmd).andThen fun _ => (callsIgnoreResponder_sensorRead 2).andThen fun _ _ _ => rfl

theorem callsIgnoreResponder_readProm : CallsIgnoreResponder readProm := fun s r =>
  have word := callsIgnoreResponder_readPromWord
  ((word s.params.cmdProm.c0).andThen fun _ => (word s.params.cmdProm.c1).andThen fun _ =>
    (word s.params.cmdProm.c2).andThen fun _ => (word s.params.cmdProm.c3).andThen fun _ =>
    (word s.params.cmdProm.c4).andThen fun _ => (word s.params.cmdProm.c5).andThen fun _ =>
    (word s.params.cmdProm.c6).andThen fun _ _ _ => rfl) s r

section
variable (s : State) (r : Responder)

theorem loaderStep_withResponder : loaderStep (s.withResponder r) = (loaderStep s).withResponder r := by
  have same : (s.withResponder r).ldr.phase = s.ldr.phase := rfl
  unfold loaderStep
  rw [same]
  cases s.ldr.phase with
  | lIdle | lWait => rfl
  | lReset =>
    dsimp only
    rw [loaderReset, loaderReset, show (s.withResponder r).params = s.params from rfl, callsIgnoreResponder_sensorWrite]
    obtain ⟨_ | _, s'⟩ := sensorWrite s.params.cmdReset s <;> rfl
  | lProm =>
    dsimp only
    rw [loaderProm, loaderProm, callsIgnoreResponder_readProm]
    obtain ⟨_ | _, s'⟩ := readProm s <;> rfl

theorem startConversion_withResponder (cmd : Byte) (code : BitVec 4) (wait : SeqState) :
    startConversion cmd code wait (s.withResponder r) = (startConversion cmd code wait s).withResponder r := by
  rw [startConversion, startConversion, callsIgnoreResponder_sensorWrite]
  obtain ⟨_ | _, s'⟩ := sensorWrite cmd s <;> rfl

theorem finishRead_withResponder (code : BitVec 4) (done : Code24 → Sequencer → Sequencer) :
    finishRead code done (readAdc (s.withResponder r)) = (finishRead code done (readAdc s)).withResponder r := by
  rw [callsIgnoreResponder_readAdc]
  obtain ⟨_ | _, s'⟩ := readAdc s <;> rfl

theorem seqReadP_withResponder : seqReadP (s.withResponder r) = (seqReadP s).withResponder r := by
  rw [seqReadP_eq, seqReadP_eq, finishRead_withResponder]

theorem seqReadT_withResponder : seqReadT (s.withResponder r) = (seqReadT s).withResponder r := by
  rw [seqReadT_eq, seqReadT_eq, finishRead_withResponder]

theorem seqCalc_withResponder : seqCalc (s.withResponder r) = (seqCalc s).withResponder r := by
  have same : (s.withResponder r).ldr.calValid = s.ldr.calValid := rfl
  rw [seqCalc, seqCalc, same]
  split <;> rfl

theorem seqErrorTick_withResponder : seqErrorTick (s.withResponder r) = (seqErrorTick s).withResponder r := by
  have same : (s.withResponder r).params.errRetryLimit = s.params.errRetryLimit := rfl
  have count : satinc (s.withResponder r).params.waitCntWidth (s.withResponder r).seq.waitCnt =
    satinc s.params.waitCntWidth s.seq.waitCnt := rfl
  rw [seqErrorTick, seqErrorTick]
  dsimp only
  rw [same, count]
  split <;> rfl

end

theorem sequencerStep_withResponder {s t : State} (next : sequencerStep s = .next t) (r : Responder) :
    sequencerStep (s.withResponder r) = .next (t.withResponder r) := by
  have same : (s.withResponder r).seq.state = s.seq.state := rfl
  unfold sequencerStep at next ⊢
  rw [same]
  cases hs : s.seq.state <;> rw [hs] at next <;> cases next
  case idle | waitP | waitT => rfl
  case startP | startT => exact congrArg Host.Outcome.next (startConversion_withResponder s r ..)
  case readP => exact congrArg Host.Outcome.next (seqReadP_withResponder s r)
  case readT => exact congrArg Host.Outcome.next (seqReadT_withResponder s r)
  case error => exact congrArg Host.Outcome.next (seqErrorTick_withResponder s r)
  -- what is left is CALC
  · exact congrArg Host.Outcome.next (seqCalc_withResponder s r)

/-- Settles O36: neither half of a tick reads the responder. -/
theorem tickDoesNotReadTheResponder : Obligations.TickDoesNotReadTheResponder := by
  intro s t r next
  show sequencerStep (loaderStep (s.withResponder r)) = .next (t.withResponder r)
  rw [loaderStep_withResponder]
  exact sequencerStep_withResponder next r

/-! ### Bus events and the measuring side -/

/-- `s` with another sequencer, loader and reading. -/
def State.withMeasuring (s : State) (q : Sequencer) (l : Loader) (r : Reading) : State :=
  { s with seq := q, ldr := l, reading := r }

section
variable {s t : State} (q : Sequencer) (l : Loader) (r : Reading)

theorem dropTransfer_withMeasuring : (s.withMeasuring q l r).dropTransfer = s.dropTransfer.withMeasuring q l r := by
  rw [dropTransfer_eq, dropTransfer_eq]; rfl

theorem busAddr_withMeasuring {a7 : BitVec 7} {rw : Bool} (next : busAddr a7 rw s = .next t) :
    busAddr a7 rw (s.withMeasuring q l r) = .next (t.withMeasuring q l r) := by
  have same : (s.withMeasuring q l r).addrMatch a7 = s.addrMatch a7 := rfl
  unfold busAddr at next ⊢
  rw [same]
  cases hit : s.addrMatch a7 with
  | true => rw [hit] at next; cases next; cases rw <;> rfl
  | false =>
    rw [hit] at next; cases next
    exact congrArg (fun u : State => (.next (u.busAnswer .nack) : Out)) (dropTransfer_withMeasuring q l r)

theorem busWriteByte_withMeasuring {b : Byte} (next : busWriteByte b s = .next t) :
    busWriteByte b (s.withMeasuring q l r) = .next (t.withMeasuring q l r) := by
  have same : (s.withMeasuring q l r).slv = s.slv := rfl
  unfold busWriteByte at next ⊢
  rw [same]
  cases hdir : s.slv.dir with
  | none | transmitting => rw [hdir] at next; cases next; rfl
  | receiving =>
    rw [hdir] at next
    dsimp only at next ⊢
    split at next
    next h => cases next; rw [if_pos h]; rfl
    next h =>
      split at next <;> cases next
      next h3 => rw [if_neg h, if_pos h3]; rfl
  | reserved => rw [hdir] at next; cases next

theorem busReadByte_withMeasuring (next : busReadByte s = .next t) :
    busReadByte (s.withMeasuring q l r) = .next (t.withMeasuring q l r) := by
  have same : (s.withMeasuring q l r).slv = s.slv := rfl
  unfold busReadByte at next ⊢
  rw [same]
  cases hdir : s.slv.dir with
  | none | receiving => rw [hdir] at next; cases next; rfl
  | transmitting =>
    rw [hdir] at next
    dsimp only at next ⊢
    split at next
    next h => cases next; rw [if_pos h]; rfl
    next h =>
      split at next <;> cases next
      next h3 => rw [if_neg h, if_pos h3]; rfl
  | reserved => rw [hdir] at next; cases next

end

/-- Settles O37: an instruction with a bus event's word is a bus row, and each row's event reads the responder, the
configuration and the parameters only. -/
theorem busEventsDoNotReadTheSequencer : Obligations.BusEventsDoNotReadTheSequencer := by
  intro i s t q l r hkind next
  show exec i (s.withMeasuring q l r) = .next (t.withMeasuring q l r)
  cases i with
  | busAddrWMatch a7 => rw [exec_busAddrWMatch] at next ⊢; exact busAddr_withMeasuring q l r next
  | busAddrRMatch a7 => rw [exec_busAddrRMatch] at next ⊢; exact busAddr_withMeasuring q l r next
  | busAddrNomatch a7 rw => rw [exec_busAddrNomatch] at next ⊢; exact busAddr_withMeasuring q l r next
  | busWbRx b | busWbRxLast b | busWbNone b | busWbTx b =>
    rw [exec_writeByteRow (b := b) (by simp)] at next ⊢; exact busWriteByte_withMeasuring q l r next
  | busRbTx | busRbTxLast | busRbNone | busRbRx =>
    rw [exec_readByteRow (by simp)] at next ⊢; exact busReadByte_withMeasuring q l r next
  | busStop => cases next; exact congrArg Host.Outcome.next (dropTransfer_withMeasuring q l r)
  | busBerr => cases next; rfl
  | _ => simp [encode] at hkind

end Sys2Proof.Machine
end

section
/-! Bounds: the engine's results for all operands (R204, R209), the count of the Error state (R158) and the host reference
procedure (R286 to R288). -/

namespace Sys2Proof.Machine

open Config

/-! ### The engine never saturates -/

/-- A division of the engine keeps a bound on the magnitude (R208). -/
theorem abs_engineDiv_le {mode : DivMode} {a B : Int} {k : Nat} (h : |a| ≤ B * 2 ^ k) : |engineDiv mode a k| ≤ B :=
  abs_le.2 (engineDiv_bound mode (abs_le.1 h).1 (abs_le.1 h).2)

/-- An unsigned operand below `N` times a quantity of magnitude at most `X`. -/
theorem abs_natCast_mul_le {n N : Nat} {x X B : Int} (hn : n < N) (hx : |x| ≤ X) (hB : N * X = B) : |(n : Int) * x| ≤ B := by
  rw [abs_mul, Nat.abs_cast, ← hB]
  exact mul_le_mul (by exact_mod_cast hn.le) hx (abs_nonneg x) (by positivity)

section
variable (mode : DivMode) (c : Seven Half) (d1 d2 : Code24)

theorem abs_compDT_le : |compDT c d2| ≤ 2 ^ 24 := by
  have := d2.isLt; have := c.c5.isLt
  rw [compDT, abs_le]
  omega

theorem abs_compTemp_le : |compTemp mode c d2| ≤ 2000 + 2 ^ 17 := by
  have product : |compDT c d2 * c.c6.toNat| ≤ 2 ^ 17 * 2 ^ 23 := by
    rw [mul_comm]; exact abs_natCast_mul_le c.c6.isLt (abs_compDT_le c d2) (by norm_num)
  exact (abs_add_le _ _).trans (add_le_add_right (abs_engineDiv_le product) _)

theorem abs_compOff_le : |compOff mode c d2| ≤ 3 * 2 ^ 33 := by
  have offset : |(c.c2.toNat : Int) * 2 ^ 17| ≤ 2 ^ 33 :=
    abs_natCast_mul_le c.c2.isLt (abs_of_pos (by norm_num)).le (by norm_num)
  have product : |(c.c4.toNat : Int) * compDT c d2| ≤ 2 ^ 34 * 2 ^ 6 :=
    abs_natCast_mul_le c.c4.isLt (abs_compDT_le c d2) (by norm_num)
  exact (abs_add_le _ _).trans (add_le_add offset (abs_engineDiv_le product))

theorem abs_compSens_le : |compSens mode c d2| ≤ 3 * 2 ^ 32 := by
  have sensitivity : |(c.c1.toNat : Int) * 2 ^ 16| ≤ 2 ^ 32 :=
    abs_natCast_mul_le c.c1.isLt (abs_of_pos (by norm_num)).le (by norm_num)
  have product : |(c.c3.toNat : Int) * compDT c d2| ≤ 2 ^ 33 * 2 ^ 7 :=
    abs_natCast_mul_le c.c3.isLt (abs_compDT_le c d2) (by norm_num)
  exact (abs_add_le _ _).trans (add_le_add sensitivity (abs_engineDiv_le product))

theorem abs_compP_le : |compP mode c d1 d2| ≤ 15 * 2 ^ 18 := by
  have product : |(d1.toNat : Int) * compSens mode c d2| ≤ 3 * 2 ^ 35 * 2 ^ 21 :=
    abs_natCast_mul_le d1.isLt (abs_compSens_le mode c d2) (by norm_num)
  have difference : |engineDiv mode (d1.toNat * compSens mode c d2) 21 - compOff mode c d2| ≤ 15 * 2 ^ 18 * 2 ^ 15 :=
    (abs_sub _ _).trans (add_le_add (abs_engineDiv_le product) (abs_compOff_le mode c d2))
  exact abs_engineDiv_le difference

end

/-- A value well inside the 32-bit range is not clamped (R203). -/
theorem sat32_of_abs_lt {x : Int} (h : |x| < 2 ^ 22) : sat32 x = x := by
  obtain ⟨lo, hi⟩ := abs_lt.1 h
  exact sat32_of_inRange (by omega) (by omega)

/-- Settles O45: the bound of each quantity of the engine from those of its operands. -/
theorem compensationNeverSaturates : Obligations.CompensationNeverSaturates := by
  intro mode c d1 d2
  have hp : |compP mode c d1 d2| < 2 ^ 22 := (abs_compP_le mode c d1 d2).trans_lt (by norm_num)
  have ht : |compTemp mode c d2| < 2 ^ 18 := (abs_compTemp_le mode c d2).trans_lt (by norm_num)
  refine ⟨hp, ht, ?_⟩
  rw [compensate, sat32_of_abs_lt hp, sat32_of_abs_lt (ht.trans (by norm_num))]

/-! ### The tick in Error -/

theorem exec_tickError {s : State} (h : s.seq.state = .error) : exec .tickError s = .next (seqErrorTick s) := by
  rw [exec_sequencerRow (by simp), sequencerStep, h]

/-- Settles O32: the saturating increment is the minimum, and the comparison with the limit chooses. -/
theorem errorStep : Obligations.ErrorStep := by
  intro s hstate hfits c
  have count : satinc s.params.waitCntWidth s.seq.waitCnt = c := satinc_eq hfits
  rw [exec_tickError hstate, seqErrorTick, count]
  refine ⟨fun h => ?_, fun h => ?_⟩
  · simp only [if_pos h]; rfl
  · simp only [if_neg (not_lt.2 h)]

/-! ### The host reference procedure -/

/-- A value of the 32-bit range is read back from its pattern. -/
theorem ofInt_toInt_of_inRange {x : Int} (lo : -2147483648 ≤ x) (hi : x ≤ 2147483647) : (BitVec.ofInt 32 x).toInt = x := by
  rw [BitVec.toInt_ofInt, Int.bmod_eq_of_le] <;> omega

theorem clampPressure_inRange (p : Int) : -500000 ≤ clampPressure p ∧ clampPressure p ≤ 500000 := by
  unfold clampPressure; omega

/-- Settles O60: both cases of the valid flag; the clamped pressure is far inside the range its pattern can hold. -/
theorem coordinatorPublishes : Obligations.CoordinatorPublishes := by
  intro p n st pr te hn
  obtain ⟨lo, hi⟩ := clampPressure_inRange pr.toInt
  refine ⟨fun invalid => by rw [coordinator, invalid]; rfl, fun valid => ?_⟩
  simp only [coordinator, if_pos valid]
  refine ⟨satinc_eq hn, _, _, _, rfl, rfl, rfl, rfl, rfl, fun mode => ?_, fun mode => ?_⟩ <;> rw [mode]
  · exact ofInt_toInt_of_inRange (by omega) (by omega)
  · exact ofInt_toInt_of_inRange (by omega) (by omega)

end Sys2Proof.Machine
end

section
/-! Runs of ticks: how far a run has come is said by the sequencer, the loader and the number of sensor answers used up; one
tick takes it one move on, a count takes it on by its length. The lengths of an Error episode (R163), a cycle (R162) and a load
(R175). -/

namespace Sys2Proof.Machine

open Config

/-! ### One more step of a run -/

section
variable {k : Nat} {s t : State}

/-- A run begins with a step. -/
theorem run_of_step {s' : State} (h : step s = .next s') : Host.Core.run core (k + 1) s = Host.Core.run core k s' := by
  refine (Host.Core.run.eq_2 core s k).trans ?_
  rw [show core.step s = .next s' from h]

theorem run_inv (h : Host.Core.run core (k + 1) s = .next t) :
    ∃ s', step s = .next s' ∧ Host.Core.run core k s' = .next t := by
  replace h := (Host.Core.run.eq_2 core s k).symm.trans h
  split at h
  next s' hs => exact ⟨s', hs, h⟩
  all_goals cases h

/-- A run may also be taken one step on at its end. -/
theorem run_succ (h : Host.Core.run core k s = .next t) : Host.Core.run core (k + 1) s = step t := by
  induction k generalizing s with
  | zero =>
    cases h
    refine (Host.Core.run.eq_2 core t 0).trans ?_
    change _ = core.step t
    split <;> rename_i next <;> rw [next]
    rfl
  | succ k ih =>
    obtain ⟨s', next, h⟩ := run_inv h
    exact (run_of_step next).trans (ih h)

end

theorem step_tick {s : State} {rest : List OpWord} (hs : s.isHeld = true) (hop : s.env.events = tickWord :: rest) :
    step s = sequencerStep (loaderStep (s.takeEvent rest)) :=
  step_of_decode hs hop rfl

/-! ### How far a run of ticks has come -/

/-- How far a run of ticks has come: the sequencer, the loader, and how many of the sensor's answers are used up. -/
structure Progress where
  seq : Sequencer
  ldr : Loader
  used : Nat

/-- `s` after ticks that led to `p`, with the events `ops` still to come and the outputs `o`. -/
def State.progressed (s : State) (p : Progress) (ops : List OpWord) (o : Ports) : State :=
  { s with seq := p.seq, ldr := p.ldr, env := { s.env.afterAnswers p.used with events := ops }, ports := o }

section
variable (s : State) (p : Progress) (ops : List OpWord) (o : Ports)

@[simp] theorem progressed_seq : (s.progressed p ops o).seq = p.seq := rfl
@[simp] theorem progressed_ldr : (s.progressed p ops o).ldr = p.ldr := rfl
@[simp] theorem progressed_params : (s.progressed p ops o).params = s.params := rfl
@[simp] theorem progressed_reading : (s.progressed p ops o).reading = s.reading := rfl

@[simp] theorem progressed_answerAt (n : Nat) : (s.progressed p ops o).env.answerAt n = s.env.answerAt (p.used + n) :=
  answerAt_afterAnswers s.env p.used n

theorem progressed_called (calls : List SensorCall) :
    (s.progressed p ops o).called calls =
      s.progressed { p with used := p.used + calls.length } ops { o with sensorCalls := o.sensorCalls ++ calls } := by
  have env : ({ s.env.afterAnswers p.used with events := ops } : Env).afterAnswers calls.length =
      { s.env.afterAnswers (p.used + calls.length) with events := ops } := by
    rw [← afterAnswers_afterAnswers]; rfl
  unfold State.called State.progressed
  rw [env]

theorem progressed_isHeld (hs : s.isHeld = true) (hp : p.seq.state.isHeld = true) :
    (s.progressed p ops o).isHeld = true := by
  exact (isHeld_iff _).2 ⟨hp, ((isHeld_iff s).1 hs).2⟩

end

/-- One tick takes `s` from `p` to `p'`, whatever events come after it. -/
def TicksTo (s : State) (p p' : Progress) : Prop :=
  ∀ ops, ∃ o, sequencerStep (loaderStep (s.progressed p ops {})) = .next (s.progressed p' ops o)

/-- `k` steps take `s` to `p`, with the events after the first `k` still to come. -/
def Reaches (s : State) (k : Nat) (p : Progress) : Prop :=
  ∃ o, Host.Core.run core k s = .next (s.progressed p (s.env.events.drop k) o)

theorem reaches_zero (s : State) : Reaches s 0 ⟨s.seq, s.ldr, 0⟩ :=
  by
  refine ⟨s.ports, congrArg Host.Outcome.next ?_⟩
  rw [State.progressed, afterAnswers_zero]
  rfl

section
variable {s : State} {k n : Nat} {rest : List OpWord} {p p' : Progress}

/-- Where the events begin with `n` ticks, the step after fewer than `n` is a tick. -/
theorem Reaches.run_succ (h : Reaches s k p) (hs : s.isHeld = true) (held : p.seq.state.isHeld = true)
    (ticks : s.env.events = List.replicate n tickWord ++ rest) (hk : k < n) :
    Host.Core.run core (k + 1) s =
      sequencerStep (loaderStep (s.progressed p (s.env.events.drop (k + 1)) {})) := by
  obtain ⟨o, h⟩ := h
  have hop : s.env.events.drop k = tickWord :: s.env.events.drop (k + 1) := by
    have hlen : k < s.env.events.length := by rw [ticks]; simp; omega
    rw [List.drop_eq_getElem_cons hlen]
    congr 1
    simp [ticks, hk]
  rw [Machine.run_succ h, step_tick (progressed_isHeld s p _ o hs held) hop]
  rfl

theorem Reaches.tick (h : Reaches s k p) (hs : s.isHeld = true) (held : p.seq.state.isHeld = true)
    (ticks : s.env.events = List.replicate n tickWord ++ rest) (hk : k < n) (move : TicksTo s p p') :
    Reaches s (k + 1) p' := by
  obtain ⟨o, next⟩ := move (s.env.events.drop (k + 1))
  exact ⟨o, (h.run_succ hs held ticks hk).trans next⟩

end

/-! ### The moves of a calibrated sequencer -/

section
variable {s : State} {p : Progress}

/-- Beside a loader at rest a tick is the sequencer step. -/
theorem ticksTo_of_sequencerStep {p' : Progress} (hldr : p.ldr.phase = .lIdle)
    (next : ∀ ops, ∃ o, sequencerStep (s.progressed p ops {}) = .next (s.progressed p' ops o)) : TicksTo s p p' := by
  intro ops
  rw [loaderStep_of_idle (s := s.progressed p ops {}) hldr]
  exact next ops

/-- A Start state whose call is answered, with a counter that holds WAIT_TICKS (R151, R154). -/
theorem startConversion_progressed (hans : s.env.answerAt p.used ≠ .fail)
    (hfits : s.cfg.waitTicks.toNat < 2 ^ s.params.waitCntWidth) (cmd : Byte) (code : BitVec 4) (wait : SeqState)
    (ops : List OpWord) :
    startConversion cmd code wait (s.progressed p ops {}) =
      s.progressed ⟨{ p.seq with waitCnt := s.cfg.waitTicks.toNat, state := wait }, p.ldr, p.used + 1⟩ ops
        { sensorCalls := [.write cmd] } := by
  rw [startConversion_answered (by simpa using hans), progressed_called, settlingCount_eq (s := s.progressed p ops {}) hfits]
  rfl

theorem ticksTo_start {now wait : SeqState} (hrow : (now, wait) ∈ [(SeqState.startP, SeqState.waitP), (.startT, .waitT)])
    (hldr : p.ldr.phase = .lIdle) (hstate : p.seq.state = now) (hans : s.env.answerAt p.used ≠ .fail)
    (hfits : s.cfg.waitTicks.toNat < 2 ^ s.params.waitCntWidth) :
    TicksTo s p ⟨{ p.seq with waitCnt := s.cfg.waitTicks.toNat, state := wait }, p.ldr, p.used + 1⟩ := by
  refine ticksTo_of_sequencerStep hldr fun ops => ?_
  rw [sequencerStep, progressed_seq, hstate]
  simp only [List.mem_cons, Prod.mk.injEq, List.not_mem_nil, or_false] at hrow
  rcases hrow with ⟨rfl, rfl⟩ | ⟨rfl, rfl⟩ <;>
    exact ⟨_, congrArg Host.Outcome.next (startConversion_progressed hans hfits ..)⟩

/-- A Read state whose two calls are answered (R153, R156). -/
theorem finishRead_progressed (h0 : s.env.answerAt p.used ≠ .fail) (h1 : s.env.answerAt (p.used + 1) ≠ .fail)
    (code : BitVec 4) (done : Code24 → Sequencer → Sequencer) (ops : List OpWord) :
    finishRead code done (readAdc (s.progressed p ops {})) =
      s.progressed ⟨done (answeredCode (s.env.answerAt (p.used + 1))) p.seq, p.ldr, p.used + 2⟩ ops
        { sensorCalls := [.write s.params.cmdAdcRead, .read 3] } := by
  rw [finishRead_answered (by simpa using h0) (by simpa using h1), progressed_called, progressed_answerAt]
  rfl

theorem ticksTo_readP (hldr : p.ldr.phase = .lIdle) (hstate : p.seq.state = .readP)
    (h0 : s.env.answerAt p.used ≠ .fail) (h1 : s.env.answerAt (p.used + 1) ≠ .fail) :
    TicksTo s p
      ⟨{ p.seq with rawD1 := answeredCode (s.env.answerAt (p.used + 1)), state := .startT }, p.ldr, p.used + 2⟩ :=
  ticksTo_of_sequencerStep hldr fun ops => by
    rw [sequencerStep, progressed_seq, hstate]
    exact ⟨_, congrArg Host.Outcome.next ((seqReadP_eq _).trans (finishRead_progressed h0 h1 ..))⟩

theorem ticksTo_readT (hldr : p.ldr.phase = .lIdle) (hstate : p.seq.state = .readT)
    (h0 : s.env.answerAt p.used ≠ .fail) (h1 : s.env.answerAt (p.used + 1) ≠ .fail) :
    TicksTo s p
      ⟨{ p.seq with rawD2 := answeredCode (s.env.answerAt (p.used + 1)), state := .calc }, p.ldr, p.used + 2⟩ :=
  ticksTo_of_sequencerStep hldr fun ops => by
    rw [sequencerStep, progressed_seq, hstate]
    exact ⟨_, congrArg Host.Outcome.next ((seqReadT_eq _).trans (finishRead_progressed h0 h1 ..))⟩

/-- A tick in a Wait state (R152, R155). -/
theorem ticksTo_wait {wait read : SeqState} (hrow : (wait, read) ∈ [(SeqState.waitP, SeqState.readP), (.waitT, .readT)])
    (hldr : p.ldr.phase = .lIdle) (hstate : p.seq.state = wait) :
    TicksTo s p
      ⟨{ p.seq with waitCnt := p.seq.waitCnt - 1, state := if p.seq.waitCnt - 1 = 0 then read else wait }, p.ldr,
        p.used⟩ := by
  refine ticksTo_of_sequencerStep hldr fun ops => ⟨{}, ?_⟩
  have counted : waitConversion read (s.progressed p ops {}) = s.progressed
      ⟨{ p.seq with waitCnt := p.seq.waitCnt - 1, state := if p.seq.waitCnt - 1 = 0 then read else wait }, p.ldr, p.used⟩
      ops {} := by
    rw [waitConversion, progressed_seq, satdec_eq, hstate]; rfl
  rw [← counted, sequencerStep, progressed_seq, hstate]
  simp only [List.mem_cons, Prod.mk.injEq, List.not_mem_nil, or_false] at hrow
  rcases hrow with ⟨rfl, rfl⟩ | ⟨rfl, rfl⟩ <;> rfl

/-- An invalid reading is as a tick in Error leaves it. -/
theorem invalidated_eq {r : Reading} (h : r.valid = false) : { r with valid := false } = r := by
  cases r; cases h; rfl

/-- A tick in Error that does not pass the limit, the reading being invalid already (R158). -/
theorem ticksTo_error_kept (hldr : p.ldr.phase = .lIdle) (hstate : p.seq.state = .error)
    (hinvalid : s.reading.valid = false) (hfits : p.seq.waitCnt + 1 < 2 ^ s.params.waitCntWidth)
    (hlimit : p.seq.waitCnt + 1 ≤ s.params.errRetryLimit) :
    TicksTo s p ⟨{ p.seq with waitCnt := p.seq.waitCnt + 1 }, p.ldr, p.used⟩ := by
  refine ticksTo_of_sequencerStep hldr fun ops => ⟨{}, ?_⟩
  have count : min (2 ^ s.params.waitCntWidth - 1) (p.seq.waitCnt + 1) = p.seq.waitCnt + 1 := by omega
  obtain ⟨_, kept⟩ := errorStep (s.progressed p ops {}) hstate (Nat.lt_of_succ_lt hfits)
  rw [← exec_sequencerRow (i := .tickError) (by simp), kept (count.trans_le hlimit)]
  simp only [progressed_params, progressed_seq, progressed_reading, invalidated_eq hinvalid, count]
  rfl

/-- A tick in Error that passes the limit (R158). -/
theorem ticksTo_error_left (hldr : p.ldr.phase = .lIdle) (hstate : p.seq.state = .error)
    (hinvalid : s.reading.valid = false) (hfits : p.seq.waitCnt + 1 < 2 ^ s.params.waitCntWidth)
    (hlimit : s.params.errRetryLimit < p.seq.waitCnt + 1) :
    TicksTo s p ⟨{ p.seq with waitCnt := 0, state := .startP }, p.ldr, p.used⟩ := by
  refine ticksTo_of_sequencerStep hldr fun ops => ⟨{}, ?_⟩
  have count : min (2 ^ s.params.waitCntWidth - 1) (p.seq.waitCnt + 1) = p.seq.waitCnt + 1 := by omega
  obtain ⟨left, _⟩ := errorStep (s.progressed p ops {}) hstate (Nat.lt_of_succ_lt hfits)
  rw [← exec_sequencerRow (i := .tickError) (by simp), left (hlimit.trans_eq count.symm)]
  simp only [progressed_seq, progressed_reading, invalidated_eq hinvalid]
  rfl

/-! ### The moves of the loader, the sequencer being idle -/

/-- Beside an idle sequencer a tick is the loader step. -/
theorem ticksTo_of_loaderStep {p' : Progress} (hidle : p'.seq.state = .idle)
    (next : ∀ ops, ∃ o, loaderStep (s.progressed p ops {}) = s.progressed p' ops o) : TicksTo s p p' := by
  intro ops
  obtain ⟨o, next⟩ := next ops
  refine ⟨o, ?_⟩
  rw [next, sequencerStep, progressed_seq, hidle]
  rfl

/-- L_RESET answered (R171). -/
theorem ticksTo_lReset (hidle : p.seq.state = .idle) (hphase : p.ldr.phase = .lReset)
    (hans : s.env.answerAt p.used ≠ .fail) :
    TicksTo s p ⟨p.seq, { p.ldr with cnt := s.params.resetWaitTicks, phase := .lWait }, p.used + 1⟩ := by
  refine ticksTo_of_loaderStep hidle fun ops => ⟨{ sensorCalls := [.write s.params.cmdReset] }, ?_⟩
  rw [loaderStep, progressed_ldr, hphase]
  dsimp only
  rw [loaderReset_eq, progressed_called, if_neg (by simpa using hans)]
  rfl

/-- L_WAIT (R172). -/
theorem ticksTo_lWait (hidle : p.seq.state = .idle) (hphase : p.ldr.phase = .lWait) :
    TicksTo s p
      ⟨p.seq, { p.ldr with cnt := satdec8 p.ldr.cnt, phase := if satdec8 p.ldr.cnt = 0#8 then .lProm else .lWait },
        p.used⟩ := by
  refine ticksTo_of_loaderStep hidle fun ops => ⟨{}, ?_⟩
  rw [loaderStep, progressed_ldr, hphase]
  dsimp only
  rw [loaderWait, progressed_ldr, hphase]
  rfl

/-- The seven words that 14 answers give, each word's in the answer to its read (R174). -/
def answeredSet (order : PromWordOrder) (answer : Nat → SensorAnswer) : Seven Half :=
  ⟨answeredWord order (answer 1), answeredWord order (answer 3), answeredWord order (answer 5),
    answeredWord order (answer 7), answeredWord order (answer 9), answeredWord order (answer 11),
    answeredWord order (answer 13)⟩

/-- L_PROM with its 14 calls answered (R174). -/
theorem ticksTo_lProm (hidle : p.seq.state = .idle) (hphase : p.ldr.phase = .lProm)
    (hans : ∀ n, n < 14 → s.env.answerAt (p.used + n) ≠ .fail) :
    TicksTo s p
      ⟨p.seq,
        { p.ldr with
          cal := answeredSet s.params.promWordOrder fun n => s.env.answerAt (p.used + n)
          calValid := true
          calBusy := false
          phase := .lIdle },
        p.used + 14⟩ := by
  refine ticksTo_of_loaderStep hidle fun ops => ⟨{ sensorCalls := promCalls s.params }, ?_⟩
  rw [loaderStep, progressed_ldr, hphase]
  dsimp only
  rw [loaderProm, readProm_answered (s := s.progressed p ops {}) (by simpa using hans), progressed_called]
  simp only [progressed_answerAt]
  rfl

end

/-! ### Counting down -/

section
variable {s : State} {k n : Nat} {rest : List OpWord} (hs : s.isHeld = true)
  (ticks : s.env.events = List.replicate n tickWord ++ rest)
include hs ticks

/-- A Wait state entered with the count `w` takes max(1, w) ticks (R152, R155). -/
theorem Reaches.wait {wait read : SeqState} (hrow : (wait, read) ∈ [(SeqState.waitP, SeqState.readP), (.waitT, .readT)])
    {q : Sequencer} {l : Loader} {used w : Nat} (hldr : l.phase = .lIdle)
    (h : Reaches s k ⟨{ q with waitCnt := w, state := wait }, l, used⟩) (hk : k + max 1 w ≤ n) :
    Reaches s (k + max 1 w) ⟨{ q with waitCnt := 0, state := read }, l, used⟩ := by
  have held : wait.isHeld = true := by
    simp only [List.mem_cons, Prod.mk.injEq, List.not_mem_nil, or_false] at hrow
    rcases hrow with ⟨rfl, rfl⟩ | ⟨rfl, rfl⟩ <;> rfl
  induction w generalizing k with
  | zero => simpa using h.tick hs held ticks (by omega) (ticksTo_wait hrow hldr rfl)
  | succ w ih =>
    have next := h.tick hs held ticks (by omega) (ticksTo_wait hrow hldr rfl)
    by_cases ended : w = 0
    · subst ended; simpa using next
    · have later := ih (by simpa [ended] using next) (by omega)
      rwa [show k + 1 + max 1 w = k + max 1 (w + 1) by omega] at later

/-- L_WAIT entered with the count `c` goes on for max(1, c) ticks (R172). -/
theorem Reaches.lWait_counting {q : Sequencer} {l : Loader} {used j : Nat} {c : BitVec 8} (hidle : q.state = .idle)
    (h : Reaches s k ⟨q, { l with cnt := c, phase := .lWait }, used⟩) (hk : k + max 1 c.toNat ≤ n)
    (hj : j < max 1 c.toNat) :
    Reaches s (k + j) ⟨q, { l with cnt := BitVec.ofNat 8 (c.toNat - j), phase := .lWait }, used⟩ := by
  induction j with
  | zero => simpa using h
  | succ j ih =>
    have := c.isLt
    have count : satdec8 (BitVec.ofNat 8 (c.toNat - j)) = BitVec.ofNat 8 (c.toNat - (j + 1)) := by
      apply BitVec.eq_of_toNat_eq; rw [satdec8_toNat]; simp; omega
    have counting : ¬ satdec8 (BitVec.ofNat 8 (c.toNat - j)) = 0#8 := mt satdec8_eq_zero.1 (by simp; omega)
    have next := (ih (by omega)).tick hs (by rw [hidle]; rfl) ticks (by omega) (ticksTo_lWait hidle rfl)
    rwa [if_neg counting, count] at next

theorem Reaches.lWait {q : Sequencer} {l : Loader} {used : Nat} {c : BitVec 8} (hidle : q.state = .idle)
    (h : Reaches s k ⟨q, { l with cnt := c, phase := .lWait }, used⟩) (hk : k + max 1 c.toNat ≤ n) :
    Reaches s (k + max 1 c.toNat) ⟨q, { l with cnt := 0#8, phase := .lProm }, used⟩ := by
  have last := h.lWait_counting hs ticks hidle hk (j := max 1 c.toNat - 1) (by omega)
  have ended : satdec8 (BitVec.ofNat 8 (c.toNat - (max 1 c.toNat - 1))) = 0#8 := satdec8_eq_zero.2 (by simp; omega)
  have next := last.tick hs (by rw [hidle]; rfl) ticks (by omega) (ticksTo_lWait hidle rfl)
  rwa [if_pos ended, ended, show k + (max 1 c.toNat - 1) + 1 = k + max 1 c.toNat by omega] at next

end

/-! ### The three lengths -/

theorem seqStartP_sensorCalls (s : State) :
    (seqStartP s).ports.sensorCalls = s.ports.sensorCalls ++ [.write s.params.cmdConvD1] := by
  by_cases h : s.env.answerAt 0 = .fail
  · rw [seqStartP, startConversion_failed h]; rfl
  · rw [seqStartP, startConversion_answered h]; rfl

/-- Settles O38: each tick up to the limit counts, the next leaves Error, and the one after is a tick in START_P. -/
theorem errorEpisodeLength : Obligations.ErrorEpisodeLength := by
  intro s rest h hstate hwait hlimit ticks
  have hldr : s.ldr.phase = .lIdle := h.phase_of_calValid (h.runningCalibrated (by simp [hstate]))
  have hinvalid := h.errorInvalid hstate
  have kept (k : Nat) (hk : k ≤ s.params.errRetryLimit) : Reaches s k ⟨{ s.seq with waitCnt := k }, s.ldr, 0⟩ := by
    induction k with
    | zero =>
      have start : { s.seq with waitCnt := 0 } = s.seq := by rw [← hwait]
      rw [start]; exact reaches_zero s
    | succ k ih =>
      exact (ih (by omega)).tick h.isHeld h.seqHeld ticks (by omega)
        (ticksTo_error_kept hldr hstate hinvalid (by dsimp only; omega) hk)
  have left : Reaches s (s.params.errRetryLimit + 1) ⟨{ s.seq with waitCnt := 0, state := .startP }, s.ldr, 0⟩ :=
    (kept _ le_rfl).tick h.isHeld h.seqHeld ticks (by omega)
      (ticksTo_error_left hldr hstate hinvalid (by dsimp only; omega) (Nat.lt_succ_self _))
  refine ⟨fun k hk => ?_, ?_, ?_⟩
  · obtain ⟨_, run⟩ := kept k hk
    exact ⟨_, run, hstate, rfl⟩
  · obtain ⟨_, run⟩ := left
    exact ⟨_, run, rfl, rfl, hinvalid⟩
  · have run := left.run_succ h.isHeld rfl ticks (by omega)
    rw [loaderStep_of_idle (by exact hldr)] at run
    exact ⟨_, run, seqStartP_sensorCalls _⟩

/-- The tick in CALC, with a loaded set: it publishes the engine's results (R157). -/
theorem Reaches.run_calc {s : State} {k n : Nat} {rest : List OpWord} {p : Progress} (h : Reaches s k p)
    (hs : s.isHeld = true) (ticks : s.env.events = List.replicate n tickWord ++ rest) (hk : k < n)
    (hstate : p.seq.state = .calc) (hldr : p.ldr.phase = .lIdle) (hvalid : p.ldr.calValid = true) :
    ∃ pr te : Word,
      Host.Core.run core (k + 1) s = .next
        { s.progressed p (s.env.events.drop (k + 1)) {} with
          reading := { pressure := pr, temperature := te, valid := true }, seq := { p.seq with state := .startP } } ∧
      pr.toInt = (compensate s.params.divMode p.ldr.cal p.seq.rawD1 p.seq.rawD2).1 ∧
      te.toInt = (compensate s.params.divMode p.ldr.cal p.seq.rawD1 p.seq.rawD2).2 := by
  obtain ⟨pr, te, published, results⟩ := (calculateStep (s.progressed p (s.env.events.drop (k + 1)) {}) hstate).2 hvalid
  refine ⟨pr, te, ?_, results⟩
  rw [h.run_succ hs (by rw [hstate]; rfl) ticks hk, loaderStep_of_idle (s := s.progressed ..) hldr,
    ← exec_sequencerRow (i := .tickCalc) (by simp), published]
  rfl

/-- Settles O39: the moves of a cycle one after the other, five of one tick and the two waits. -/
theorem cycleLength : Obligations.CycleLength := by
  intro s rest h hstate hfits hans ticks
  have hs := h.isHeld
  have hvalid := h.runningCalibrated (by simp [hstate])
  have hldr : s.ldr.phase = .lIdle := h.phase_of_calValid hvalid
  generalize hw : s.cfg.waitTicks.toNat = w at ticks ⊢
  generalize hd1 : answeredCode (s.env.answerAt 2) = d1
  generalize hd2 : answeredCode (s.env.answerAt 5) = d2
  have startP : Reaches s 1 ⟨{ s.seq with waitCnt := w, state := .waitP }, s.ldr, 1⟩ := hw ▸
    (reaches_zero s).tick hs h.seqHeld ticks (by omega) (ticksTo_start (by simp) hldr hstate (hans 0 (by omega)) hfits)
  have waitP : Reaches s (1 + max 1 w) ⟨{ s.seq with waitCnt := 0, state := .readP }, s.ldr, 1⟩ :=
    startP.wait hs ticks (by simp) hldr (by omega)
  have readP : Reaches s (1 + max 1 w + 1) ⟨{ s.seq with waitCnt := 0, rawD1 := d1, state := .startT }, s.ldr, 3⟩ := hd1 ▸
    waitP.tick hs rfl ticks (by omega) (ticksTo_readP hldr rfl (hans 1 (by omega)) (hans 2 (by omega)))
  have startT : Reaches s (1 + max 1 w + 1 + 1)
      ⟨{ s.seq with waitCnt := w, rawD1 := d1, state := .waitT }, s.ldr, 4⟩ := hw ▸
    readP.tick hs rfl ticks (by omega) (ticksTo_start (by simp) hldr rfl (hans 3 (by omega)) hfits)
  have waitT : Reaches s (1 + max 1 w + 1 + 1 + max 1 w)
      ⟨{ s.seq with waitCnt := 0, rawD1 := d1, state := .readT }, s.ldr, 4⟩ :=
    Reaches.wait hs ticks (q := { s.seq with rawD1 := d1 }) (by simp) hldr startT (by omega)
  have readT : Reaches s (1 + max 1 w + 1 + 1 + max 1 w + 1)
      ⟨{ s.seq with waitCnt := 0, rawD1 := d1, rawD2 := d2, state := .calc }, s.ldr, 6⟩ := hd2 ▸
    waitT.tick hs rfl ticks (by omega) (ticksTo_readT hldr rfl (hans 4 (by omega)) (hans 5 (by omega)))
  obtain ⟨pr, te, run, hp, ht⟩ := readT.run_calc hs ticks (by omega) rfl hldr hvalid
  rw [show 1 + max 1 w + 1 + 1 + max 1 w + 1 + 1 = 5 + 2 * max 1 w by omega] at run
  exact ⟨_, run, by rw [ticks]; simp [State.progressed], rfl, rfl, rfl, rfl, hp, ht⟩

/-- Settles O40: the reset, the wait and the read of the PROM one after the other; the flags stay until the last. -/
theorem loadLength : Obligations.LoadLength := by
  intro s rest h hphase hans ticks
  have loading : s.ldr.phase ≠ .lIdle := by simp [hphase]
  obtain ⟨hidle, hvalid⟩ := h.idle_of_loading loading
  have hbusy := h.busyPhase.2 loading
  have hs := h.isHeld
  have reset := (reaches_zero s).tick hs h.seqHeld ticks (by omega) (ticksTo_lReset hidle hphase (hans 0 (by omega)))
  have waited := reset.lWait hs ticks hidle (by omega)
  have loaded := waited.tick hs h.seqHeld ticks (by omega)
    (ticksTo_lProm hidle rfl fun n hn => by simpa using hans (1 + n) (by omega))
  refine ⟨?_, fun k hk => ?_⟩
  · obtain ⟨_, run⟩ := loaded
    rw [show 0 + 1 + max 1 s.params.resetWaitTicks.toNat + 1 = 2 + max 1 s.params.resetWaitTicks.toNat by omega] at run
    exact ⟨_, run, by rw [ticks]; simp [State.progressed], rfl, rfl, rfl⟩
  · have before : ∃ p : Progress, Reaches s k p ∧ p.ldr.calValid = false ∧ p.ldr.calBusy = true := by
      obtain rfl | rfl | ⟨j, hj, rfl⟩ : k = 0 ∨ k = 0 + 1 + max 1 s.params.resetWaitTicks.toNat ∨
          ∃ j, j < max 1 s.params.resetWaitTicks.toNat ∧ k = 0 + 1 + j := by
        by_cases h0 : k = 0
        · exact .inl h0
        · by_cases hlast : k = 0 + 1 + max 1 s.params.resetWaitTicks.toNat
          · exact .inr (.inl hlast)
          · exact .inr (.inr ⟨k - 1, by omega, by omega⟩)
      · exact ⟨_, reaches_zero s, hvalid, hbusy⟩
      · exact ⟨_, waited, hvalid, hbusy⟩
      · exact ⟨_, reset.lWait_counting hs ticks hidle (by omega) hj, hvalid, hbusy⟩
    obtain ⟨p, ⟨_, run⟩, flags⟩ := before
    exact ⟨_, run, flags⟩

end Sys2Proof.Machine
end

section
/-! Whole transactions on the slave bus (R234, R235): a run of bus events and TX_HOLD writes is followed by the responder and
the last answer, everything else staying. -/

namespace Sys2Proof.Machine

theorem traceRun_zero (s : State) : traceRun 0 s = some ([], s) := rfl

/-- One step in front of a run. -/
theorem traceRun_cons {k : Nat} {s s' t : State} {ps : List Ports} (next : step s = .next s')
    (run : traceRun k s' = some (ps, t)) : traceRun (k + 1) s = some (s'.ports :: ps, t) := by
  rw [traceRun, next]
  dsimp only
  rw [run]

/-- `s` with the responder `r`, the events `ops` to come and the answer `a` given. -/
def State.onBus (s : State) (r : Responder) (ops : List OpWord) (a : Option BusAnswer) : State :=
  { s with slv := r, env := { s.env with events := ops }, ports := { busAnswer := a } }

/-- A run does not look at the outputs of the event before it. -/
theorem traceRun_eq_onBus {k : Nat} {s : State} {op : OpWord} {ops : List OpWord} (hop : s.env.events = op :: ops) :
    traceRun (k + 1) s = traceRun (k + 1) (s.onBus s.slv (op :: ops) none) := by
  have same : step s = step (s.onBus s.slv (op :: ops) none) := by
    have held : (s.onBus s.slv (op :: ops) none).isHeld = s.isHeld := rfl
    rw [step, step, held, hop]
    rfl
  rw [traceRun, traceRun, same]

section
variable {s : State} {r : Responder} {ops : List OpWord} {a : Option BusAnswer} (hseq : s.seq.state.isHeld = true)
include hseq

theorem onBus_isHeld (hdir : r.dir ≠ .reserved) (hbcnt : r.bcnt.toNat ≤ 4) : (s.onBus r ops a).isHeld = true := by
  exact (isHeld_iff _).2 ⟨hseq, hdir, hbcnt⟩

/-- The word of an event in front: the step executes it with the outputs cleared. -/
theorem step_onBus {op : OpWord} {i : Instr} (hdir : r.dir ≠ .reserved) (hbcnt : r.bcnt.toNat ≤ 4) (hi : decode op = .ok i) :
    step (s.onBus r (op :: ops) a) = exec i (s.onBus r ops none) :=
  step_of_decode (onBus_isHeld hseq hdir hbcnt) rfl hi

/-- The started responder's own address, to write (R223). -/
theorem step_onBus_addressWrite (hen : s.cfg.slvEn = true) (hdir : r.dir ≠ .reserved) (hbcnt : r.bcnt.toNat ≤ 4) :
    step (s.onBus r (busEventWord 0#4 (s.cfg.slvAddr ++ 0#1) :: ops) a) =
      .next (s.onBus { r with dir := .receiving, bcnt := 0#3 } ops (some .ack)) := by
  have hit : (s.onBus r ops none).addrMatch s.cfg.slvAddr = true := addrMatch_iff.2 ⟨hen, rfl⟩
  exact (step_onBus hseq hdir hbcnt (decode_addressWord s.cfg.slvAddr false)).trans
    ((exec_busAddrNomatch ..).trans (busAddr_write_of_match hit))

/-- The started responder's own address, to read: TXBUF is loaded (R224). -/
theorem step_onBus_addressRead (hen : s.cfg.slvEn = true) (hdir : r.dir ≠ .reserved) (hbcnt : r.bcnt.toNat ≤ 4) :
    step (s.onBus r (busEventWord 0#4 (s.cfg.slvAddr ++ 1#1) :: ops) a) =
      .next (s.onBus { r with txbuf := r.txHold, dir := .transmitting, bcnt := 0#3 } ops (some .ack)) := by
  have hit : (s.onBus r ops none).addrMatch s.cfg.slvAddr = true := addrMatch_iff.2 ⟨hen, rfl⟩
  exact (step_onBus hseq hdir hbcnt (decode_addressWord s.cfg.slvAddr true)).trans
    ((exec_busAddrNomatch ..).trans (busAddr_read_of_match hit))

/-- One of the first three written bytes (R225). -/
theorem step_onBus_writeByte (hdir : r.dir = .receiving) {k : BitVec 3} (hbcnt : r.bcnt = k) (hk : k.toNat < 3) (b : Byte) :
    step (s.onBus r (busEventWord 1#4 b :: ops) a) =
      .next (s.onBus { r with rxbuf := setLane r.rxbuf k.toNat b, bcnt := k + 1#3 } ops (some .ack)) := by
  subst hbcnt
  rw [step_onBus hseq (by simp [hdir]) (by omega) (decode_writtenByteWord b), exec_writeByteRow (b := b) (by simp),
    ← exec_writeByteRow (i := .busWbRx b) (by simp)]
  exact exec_busWbRx (s := s.onBus r ops none) b hdir hk

/-- The fourth written byte (R226). -/
theorem step_onBus_writeLastByte (hdir : r.dir = .receiving) (hbcnt : r.bcnt = 3#3) (b : Byte) :
    step (s.onBus r (busEventWord 1#4 b :: ops) a) =
      .next (s.onBus
        { r with
          rxbuf := setLane r.rxbuf 3 b, rxData := setLane r.rxbuf 3 b, rxReady := true, dir := .none, bcnt := 0#3 }
        ops (some .ack)) := by
  rw [step_onBus hseq (by simp [hdir]) (by simp [hbcnt]) (decode_writtenByteWord b), exec_writeByteRow (b := b) (by simp),
    ← exec_writeByteRow (i := .busWbRxLast b) (by simp), setLane_three]
  exact exec_busWbRxLast (s := s.onBus r ops none) b hdir hbcnt

/-- One of the first three read bytes (R230). -/
theorem step_onBus_readByte (hdir : r.dir = .transmitting) {k : BitVec 3} (hbcnt : r.bcnt = k) (hk : k.toNat < 3) :
    step (s.onBus r (busEventWord 2#4 0#8 :: ops) a) =
      .next (s.onBus { r with bcnt := k + 1#3 } ops (some (.drive (getLane r.txbuf k.toNat)))) := by
  subst hbcnt
  rw [step_onBus hseq (i := .busRbNone) (by simp [hdir]) (by omega) rfl, exec_readByteRow (by simp),
    ← exec_readByteRow (i := .busRbTx) (by simp)]
  exact exec_busRbTx (s := s.onBus r ops none) hdir hk

/-- The fourth read byte (R230). -/
theorem step_onBus_readLastByte (hdir : r.dir = .transmitting) (hbcnt : r.bcnt = 3#3) :
    step (s.onBus r (busEventWord 2#4 0#8 :: ops) a) =
      .next (s.onBus { r with dir := .none, bcnt := 0#3 } ops (some (.drive (getLane r.txbuf 3)))) := by
  rw [step_onBus hseq (i := .busRbNone) (by simp [hdir]) (by simp [hbcnt]) rfl, exec_readByteRow (by simp),
    ← exec_readByteRow (i := .busRbTxLast) (by simp)]
  exact (exec_busRbTxLast (s := s.onBus r ops none) hdir hbcnt).trans (by rw [readLastByte]; simp only [State.onBus, hbcnt]; rfl)

/-- The stop after a completed transfer changes nothing (R232). -/
theorem step_onBus_stop (hdir : r.dir = .none) (hbcnt : r.bcnt = 0#3) :
    step (s.onBus r (busEventWord 3#4 0#8 :: ops) a) = .next (s.onBus r ops none) := by
  rw [step_onBus hseq (i := .busStop) (by simp [hdir]) (by simp [hbcnt]) rfl]
  exact (stopAndBusError (s.onBus r ops none)).1 hdir

/-- The host publishes a word (R266). -/
theorem step_onBus_publish (hdir : r.dir ≠ .reserved) (hbcnt : r.bcnt.toNat ≤ 4) (lo : BitVec 2) (v : Word) :
    step (s.onBus r (hostWriteWord 7#6 lo v :: ops) a) = .next (s.onBus { r with txHold := v } ops none) :=
  step_onBus hseq hdir hbcnt (encodedInstructionDecodes (.hwTxHold lo v) rfl)

end

/-- Four bytes written in turn make the word that they spell (R234). -/
theorem setLane_four (w : Word) (b0 b1 b2 b3 : Byte) :
    setLane (setLane (setLane (setLane w 0 b0) 1 b1) 2 b2) 3 b3 = leDecode b0 b1 b2 b3 := by
  simp [setLane]

/-- Settles O55: the six steps one after the other; the bytes make the word by `setLane_four`. -/
theorem writeTransactionDelivers : Obligations.WriteTransactionDelivers := by
  intro s b0 b1 b2 b3 rest hs hen hev
  obtain ⟨hseq, hdir, hbcnt⟩ := (isHeld_iff s).1 hs
  have run := traceRun_cons (step_onBus_addressWrite (a := none) hseq hen hdir hbcnt)
    (traceRun_cons (step_onBus_writeByte hseq rfl (k := 0#3) rfl (by decide) b0)
    (traceRun_cons (step_onBus_writeByte hseq rfl (k := 1#3) rfl (by decide) b1)
    (traceRun_cons (step_onBus_writeByte hseq rfl (k := 2#3) rfl (by decide) b2)
    (traceRun_cons (step_onBus_writeLastByte hseq rfl rfl b3)
    (traceRun_cons (step_onBus_stop (ops := rest) hseq rfl rfl) (traceRun_zero _))))))
  exact ⟨_, _, (traceRun_eq_onBus hev).trans run, rfl, setLane_four s.slv.rxbuf b0 b1 b2 b3, rfl, rfl, rfl, rfl, rfl, rfl,
    rfl, rfl, rfl⟩

/-- Settles O56: the eight steps one after the other; the address loads TXBUF with the word published last, whose lanes are
then driven. -/
theorem readTransactionReturnsLatest : Obligations.ReadTransactionReturnsLatest := by
  intro s lo1 lo2 v1 v2 rest hs hen hev
  obtain ⟨hseq, hdir, hbcnt⟩ := (isHeld_iff s).1 hs
  have run := traceRun_cons (step_onBus_publish (a := none) hseq hdir hbcnt lo1 v1)
    (traceRun_cons (step_onBus_publish (r := { s.slv with txHold := v1 }) hseq hdir hbcnt lo2 v2)
    (traceRun_cons (step_onBus_addressRead (r := { s.slv with txHold := v2 }) hseq hen hdir hbcnt)
    (traceRun_cons (step_onBus_readByte hseq rfl (k := 0#3) rfl (by decide))
    (traceRun_cons (step_onBus_readByte hseq rfl (k := 1#3) rfl (by decide))
    (traceRun_cons (step_onBus_readByte hseq rfl (k := 2#3) rfl (by decide))
    (traceRun_cons (step_onBus_readLastByte hseq rfl rfl)
    (traceRun_cons (step_onBus_stop (ops := rest) hseq rfl rfl) (traceRun_zero _))))))))
  exact ⟨_, _, (traceRun_eq_onBus hev).trans run, rfl, rfl, rfl, rfl, rfl, rfl, rfl, rfl⟩

end Sys2Proof.Machine
end
